-- ==== Sys2Proof/Word.lean ====
section
/-! DEFINITION. The word types of the machine (spec 00 R6): 32-bit words, 16-bit halfwords, 8-bit bytes, and
the register numbers of the two instruction sets. -/

namespace Sys2Proof

/-- A 32-bit word: the width of a register, of an address and of the data bus (00 R6). -/
abbrev Word := BitVec 32

/-- A 16-bit halfword: the width of a THUMB instruction (00 R6). -/
abbrev Half := BitVec 16

/-- An 8-bit byte, the unit of memory (20 R60). -/
abbrev Byte := BitVec 8

/-- A 4-bit register field: R0 to R15 (10 R24). -/
abbrev Reg := BitVec 4

/-- A 3-bit register field of a THUMB instruction: R0 to R7 (10 R29). -/
abbrev LoReg := BitVec 3

end Sys2Proof
end

