-- ==== Sys2Proof/Config.lean ====
section
/-! DEFINITION. The free values: every value that the spec leaves `any value` (93_implementation_defined.md) and after
which the machine goes on. Each is an opaque constant with no body, applied to the counter `State.freeCtr` that every step
advances, so that nothing can be proved of the value. -/

namespace Sys2Proof.Config

/-- PSR bits 27:8 of an MRS result (10 R40, U3). DESIGN CHOICE, log 4. -/
opaque psrReserved : Nat → BitVec 20

/-- The 16 bits that a halfword load from an odd address loads (20 R70, U10). DESIGN CHOICE, log 16. -/
opaque oddHalfword : Nat → Half

/-- C after a flag-setting multiply (43 R222, R228, U24). DESIGN CHOICE, log 17. -/
opaque mulCarry : Nat → Bool

/-- V after a flag-setting long multiply (43 R228, U24). DESIGN CHOICE, log 17. -/
opaque mulOverflow : Nat → Bool

/-- The result of a multiply whose destination is its operand Rm (43 R224, R233, U25). DESIGN CHOICE, log 18. -/
opaque mulResult : Nat → BitVec 64

/-- N after such a multiply (U25). DESIGN CHOICE, log 18. -/
opaque mulNegative : Nat → Bool

/-- Z after such a multiply (U25). DESIGN CHOICE, log 18. -/
opaque mulZero : Nat → Bool

/-- Whether a store of its own written-back base stores the updated base (44 R247, U27). DESIGN CHOICE, log 19. -/
opaque storesUpdatedBase : Nat → Bool

/-- What a read of a banked register gives directly after a user-bank LDM (70 R532, U43). DESIGN CHOICE, log 12. -/
opaque bankedRead : Nat → Reg → Word

/-- A general register after a reset, by its index in the register file (10 R50, U44). DESIGN CHOICE, log 20. -/
opaque resetRegister : Nat → Nat → Word

/-- The defined bits of an SPSR after a reset, by its exception mode (10 R50, U44). DESIGN CHOICE, log 20. -/
opaque resetSpsr : Nat → BitVec 5 → BitVec 12

/-- The four condition flags after a reset (10 R56, U44). DESIGN CHOICE, log 20. -/
opaque resetFlags : Nat → BitVec 4

/-- Bits 27:2 of the debug comms control register (61 R498, U47). DESIGN CHOICE, log 21. -/
opaque commsReserved : Nat → BitVec 26

/-- What an unallocated ICEBreaker address reads as (61 R480, U47). DESIGN CHOICE, log 21. -/
opaque iceUnallocated : Nat → Word

/-- The CHAIN input of watchpoint 1 in a memory cycle, which no source states (61 R482, 91 N33). DESIGN CHOICE, log 22. -/
opaque wp1Chain : Nat → Nat → Bool

/-- The RANGE input of watchpoint 1 in a memory cycle, which no source states (61 R482, 91 N33). DESIGN CHOICE, log 22. -/
opaque wp1Range : Nat → Nat → Bool

/-- The PC after an aborted system-speed access (61 R477: "the value of the PC is invalid"). DESIGN CHOICE, log 23. -/
opaque abortedAccessPc : Nat → Word

/-- A data bus value that the debugger did not scan in, by its place in the instruction (61 R493). DESIGN CHOICE, log 24. -/
opaque unscannedData : Nat → Nat → Word

/-- The nMREQ bit of the debug status register while the core runs (61 R489). DESIGN CHOICE, log 9. -/
opaque runningNMreq : Nat → Bool

/-- The low address bits of an instruction fetch, which are undefined on the bus (20 R76), by its place among the memory
cycles of its step. DESIGN CHOICE, log 25. -/
opaque fetchAddrLow : Nat → Nat → BitVec 2

/-- What D[31:0] carries in a read or fetch that the memory system aborts, which no rule states (20 R83), by its place among
the memory cycles of its step. DESIGN CHOICE, log 65. -/
opaque abortedData : Nat → Nat → Word

/-- R14_abt after an aborted system-speed access, whose link rests on a PC that is invalid (61 R477). DESIGN CHOICE, log 23. -/
opaque abortedAccessLink : Nat → Word

/-- Bit 33 as captured on entry to debug state by a debug request, which no rule states (61 R493). DESIGN CHOICE, log 66. -/
opaque requestCapture : Nat → Bool

/-- The ICEBreaker register at an address of 61 R480 after nTRST (70 R522, U47). DESIGN CHOICE, log 67. -/
opaque iceAfterReset : Nat → BitVec 5 → Word

/-- What an instruction that reset abandons leaves in the memory that it could write, by the place of the write (70 R520, 91
N41). DESIGN CHOICE, log 46. -/
opaque abandonedWord : Nat → Nat → Word

/-- What it leaves in a flag of the comms channel that it could write (70 R520, 91 N41). DESIGN CHOICE, log 46. -/
opaque abandonedFlag : Nat → Bool

/-- Bits 31:1 of the device identification register, whose value the supplier gives (61 R502, U48). DESIGN CHOICE, log 68. -/
opaque deviceIdentity : BitVec 31

end Sys2Proof.Config
end

