-- ==== Sys2Proof/Syntax.lean ====
section
/-! DEFINITION. The instructions: one constructor per row of spec/opcode_table.json, in the table's order. Every
field of an encoding is an argument, the fields the hardware ignores too, so that no bit of a word is lost. Below the
type, constructor functions that gather the rows of one shape under an operation name. -/

namespace Sys2Proof

/-- The fifteen usable conditions of Table 6 (30 R104); 1111 is reserved (30 R105) and has no name here. -/
inductive Cond where
  | eq | ne | cs | cc | mi | pl | vs | vc | hi | ls | ge | lt | gt | le | al
  deriving DecidableEq, Repr

/-- The two-bit shift type of Figure 14 (41 R171). -/
inductive ShiftType where
  | lsl | lsr | asr | ror
  deriving DecidableEq, Repr

/-- The twelve data processing operations that write a result (41 R179). -/
inductive AluOp where
  | and | eor | sub | rsb | add | adc | sbc | rsc | orr | mov | bic | mvn
  deriving DecidableEq, Repr

/-- The four data processing operations that only test (41 R177, R179). -/
inductive TestOp where
  | tst | teq | cmp | cmn
  deriving DecidableEq, Repr

/-- The four long multiplies (43 R229 to R232). -/
inductive LongOp where
  | umull | umlal | smull | smlal
  deriving DecidableEq, Repr

/-- The four word and byte transfers (44 R238 to R241). -/
inductive SdtOp where
  | str | ldr | strb | ldrb
  deriving DecidableEq, Repr

/-- The four halfword and signed transfers (44 R254 to R257). -/
inductive HdtOp where
  | strh | ldrh | ldrsb | ldrsh
  deriving DecidableEq, Repr

/-- The sixteen operations of THUMB Format 4 (47 R331 to R346). -/
inductive ThumbAluOp where
  | and | eor | lsl | lsr | asr | adc | sbc | ror | tst | neg | cmp | cmn | orr | mul | bic | mvn
  deriving DecidableEq, Repr

/-- The fourteen conditions of the THUMB conditional branch (49 R411). -/
inductive ThumbCond where
  | eq | ne | cs | cc | mi | pl | vs | vc | hi | ls | ge | lt | gt | le
  deriving DecidableEq, Repr

/-- The ARM condition of a THUMB branch condition (49 R411). -/
def ThumbCond.toCond : ThumbCond → Cond
  | .eq => .eq
  | .ne => .ne
  | .cs => .cs
  | .cc => .cc
  | .mi => .mi
  | .pl => .pl
  | .vs => .vs
  | .vc => .vc
  | .hi => .hi
  | .ls => .ls
  | .ge => .ge
  | .lt => .lt
  | .gt => .gt
  | .le => .le

/-- One constructor per row of spec/opcode_table.json. Constructors that begin with `t` are THUMB. -/
inductive Instr where
  /-- Row 0: BX: Branch and Exchange (R160). -/
  | bx (c : Cond) (rn : Reg)
  /-- Row 1: B: Branch (R162). -/
  | b (c : Cond) (off : BitVec 24)
  /-- Row 2: BL: Branch with Link (R162). -/
  | bl (c : Cond) (off : BitVec 24)
  /-- Row 3: AND: Data Processing, immediate operand 2 (I = 1) (R182). -/
  | andImm (c : Cond) (s : Bool) (rn : Reg) (rd : Reg) (rot : BitVec 4) (imm : BitVec 8)
  /-- Row 4: AND: Data Processing, register operand 2 shifted by immediate (I = 0, bit 4 = 0) (R182). -/
  | andShift (c : Cond) (s : Bool) (rn : Reg) (rd : Reg) (amt : BitVec 5) (ty : ShiftType) (rm : Reg)
  /-- Row 5: AND: Data Processing, register operand 2 shifted by register (I = 0, bit 7 = 0, bit 4 = 1) (R182). -/
  | andReg (c : Cond) (s : Bool) (rn : Reg) (rd : Reg) (rs : Reg) (ty : ShiftType) (rm : Reg)
  /-- Row 6: EOR: Data Processing, immediate operand 2 (I = 1) (R183). -/
  | eorImm (c : Cond) (s : Bool) (rn : Reg) (rd : Reg) (rot : BitVec 4) (imm : BitVec 8)
  /-- Row 7: EOR: Data Processing, register operand 2 shifted by immediate (I = 0, bit 4 = 0) (R183). -/
  | eorShift (c : Cond) (s : Bool) (rn : Reg) (rd : Reg) (amt : BitVec 5) (ty : ShiftType) (rm : Reg)
  /-- Row 8: EOR: Data Processing, register operand 2 shifted by register (I = 0, bit 7 = 0, bit 4 = 1) (R183). -/
  | eorReg (c : Cond) (s : Bool) (rn : Reg) (rd : Reg) (rs : Reg) (ty : ShiftType) (rm : Reg)
  /-- Row 9: SUB: Data Processing, immediate operand 2 (I = 1) (R184). -/
  | subImm (c : Cond) (s : Bool) (rn : Reg) (rd : Reg) (rot : BitVec 4) (imm : BitVec 8)
  /-- Row 10: SUB: Data Processing, register operand 2 shifted by immediate (I = 0, bit 4 = 0) (R184). -/
  | subShift (c : Cond) (s : Bool) (rn : Reg) (rd : Reg) (amt : BitVec 5) (ty : ShiftType) (rm : Reg)
  /-- Row 11: SUB: Data Processing, register operand 2 shifted by register (I = 0, bit 7 = 0, bit 4 = 1) (R184). -/
  | subReg (c : Cond) (s : Bool) (rn : Reg) (rd : Reg) (rs : Reg) (ty : ShiftType) (rm : Reg)
  /-- Row 12: RSB: Data Processing, immediate operand 2 (I = 1) (R185). -/
  | rsbImm (c : Cond) (s : Bool) (rn : Reg) (rd : Reg) (rot : BitVec 4) (imm : BitVec 8)
  /-- Row 13: RSB: Data Processing, register operand 2 shifted by immediate (I = 0, bit 4 = 0) (R185). -/
  | rsbShift (c : Cond) (s : Bool) (rn : Reg) (rd : Reg) (amt : BitVec 5) (ty : ShiftType) (rm : Reg)
  /-- Row 14: RSB: Data Processing, register operand 2 shifted by register (I = 0, bit 7 = 0, bit 4 = 1) (R185). -/
  | rsbReg (c : Cond) (s : Bool) (rn : Reg) (rd : Reg) (rs : Reg) (ty : ShiftType) (rm : Reg)
  /-- Row 15: ADD: Data Processing, immediate operand 2 (I = 1) (R186). -/
  | addImm (c : Cond) (s : Bool) (rn : Reg) (rd : Reg) (rot : BitVec 4) (imm : BitVec 8)
  /-- Row 16: ADD: Data Processing, register operand 2 shifted by immediate (I = 0, bit 4 = 0) (R186). -/
  | addShift (c : Cond) (s : Bool) (rn : Reg) (rd : Reg) (amt : BitVec 5) (ty : ShiftType) (rm : Reg)
  /-- Row 17: ADD: Data Processing, register operand 2 shifted by register (I = 0, bit 7 = 0, bit 4 = 1) (R186). -/
  | addReg (c : Cond) (s : Bool) (rn : Reg) (rd : Reg) (rs : Reg) (ty : ShiftType) (rm : Reg)
  /-- Row 18: ADC: Data Processing, immediate operand 2 (I = 1) (R187). -/
  | adcImm (c : Cond) (s : Bool) (rn : Reg) (rd : Reg) (rot : BitVec 4) (imm : BitVec 8)
  /-- Row 19: ADC: Data Processing, register operand 2 shifted by immediate (I = 0, bit 4 = 0) (R187). -/
  | adcShift (c : Cond) (s : Bool) (rn : Reg) (rd : Reg) (amt : BitVec 5) (ty : ShiftType) (rm : Reg)
  /-- Row 20: ADC: Data Processing, register operand 2 shifted by register (I = 0, bit 7 = 0, bit 4 = 1) (R187). -/
  | adcReg (c : Cond) (s : Bool) (rn : Reg) (rd : Reg) (rs : Reg) (ty : ShiftType) (rm : Reg)
  /-- Row 21: SBC: Data Processing, immediate operand 2 (I = 1) (R188). -/
  | sbcImm (c : Cond) (s : Bool) (rn : Reg) (rd : Reg) (rot : BitVec 4) (imm : BitVec 8)
  /-- Row 22: SBC: Data Processing, register operand 2 shifted by immediate (I = 0, bit 4 = 0) (R188). -/
  | sbcShift (c : Cond) (s : Bool) (rn : Reg) (rd : Reg) (amt : BitVec 5) (ty : ShiftType) (rm : Reg)
  /-- Row 23: SBC: Data Processing, register operand 2 shifted by register (I = 0, bit 7 = 0, bit 4 = 1) (R188). -/
  | sbcReg (c : Cond) (s : Bool) (rn : Reg) (rd : Reg) (rs : Reg) (ty : ShiftType) (rm : Reg)
  /-- Row 24: RSC: Data Processing, immediate operand 2 (I = 1) (R189). -/
  | rscImm (c : Cond) (s : Bool) (rn : Reg) (rd : Reg) (rot : BitVec 4) (imm : BitVec 8)
  /-- Row 25: RSC: Data Processing, register operand 2 shifted by immediate (I = 0, bit 4 = 0) (R189). -/
  | rscShift (c : Cond) (s : Bool) (rn : Reg) (rd : Reg) (amt : BitVec 5) (ty : ShiftType) (rm : Reg)
  /-- Row 26: RSC: Data Processing, register operand 2 shifted by register (I = 0, bit 7 = 0, bit 4 = 1) (R189). -/
  | rscReg (c : Cond) (s : Bool) (rn : Reg) (rd : Reg) (rs : Reg) (ty : ShiftType) (rm : Reg)
  /-- Row 27: TST: Data Processing, immediate operand 2 (I = 1) (R190). -/
  | tstImm (c : Cond) (rn : Reg) (rd : Reg) (rot : BitVec 4) (imm : BitVec 8)
  /-- Row 28: TST: Data Processing, register operand 2 shifted by immediate (I = 0, bit 4 = 0) (R190). -/
  | tstShift (c : Cond) (rn : Reg) (rd : Reg) (amt : BitVec 5) (ty : ShiftType) (rm : Reg)
  /-- Row 29: TST: Data Processing, register operand 2 shifted by register (I = 0, bit 7 = 0, bit 4 = 1) (R190). -/
  | tstReg (c : Cond) (rn : Reg) (rd : Reg) (rs : Reg) (ty : ShiftType) (rm : Reg)
  /-- Row 30: TEQ: Data Processing, immediate operand 2 (I = 1) (R191). -/
  | teqImm (c : Cond) (rn : Reg) (rd : Reg) (rot : BitVec 4) (imm : BitVec 8)
  /-- Row 31: TEQ: Data Processing, register operand 2 shifted by immediate (I = 0, bit 4 = 0) (R191). -/
  | teqShift (c : Cond) (rn : Reg) (rd : Reg) (amt : BitVec 5) (ty : ShiftType) (rm : Reg)
  /-- Row 32: TEQ: Data Processing, register operand 2 shifted by register (I = 0, bit 7 = 0, bit 4 = 1) (R191). -/
  | teqReg (c : Cond) (rn : Reg) (rd : Reg) (rs : Reg) (ty : ShiftType) (rm : Reg)
  /-- Row 33: CMP: Data Processing, immediate operand 2 (I = 1) (R192). -/
  | cmpImm (c : Cond) (rn : Reg) (rd : Reg) (rot : BitVec 4) (imm : BitVec 8)
  /-- Row 34: CMP: Data Processing, register operand 2 shifted by immediate (I = 0, bit 4 = 0) (R192). -/
  | cmpShift (c : Cond) (rn : Reg) (rd : Reg) (amt : BitVec 5) (ty : ShiftType) (rm : Reg)
  /-- Row 35: CMP: Data Processing, register operand 2 shifted by register (I = 0, bit 7 = 0, bit 4 = 1) (R192). -/
  | cmpReg (c : Cond) (rn : Reg) (rd : Reg) (rs : Reg) (ty : ShiftType) (rm : Reg)
  /-- Row 36: CMN: Data Processing, immediate operand 2 (I = 1) (R193). -/
  | cmnImm (c : Cond) (rn : Reg) (rd : Reg) (rot : BitVec 4) (imm : BitVec 8)
  /-- Row 37: CMN: Data Processing, register operand 2 shifted by immediate (I = 0, bit 4 = 0) (R193). -/
  | cmnShift (c : Cond) (rn : Reg) (rd : Reg) (amt : BitVec 5) (ty : ShiftType) (rm : Reg)
  /-- Row 38: CMN: Data Processing, register operand 2 shifted by register (I = 0, bit 7 = 0, bit 4 = 1) (R193). -/
  | cmnReg (c : Cond) (rn : Reg) (rd : Reg) (rs : Reg) (ty : ShiftType) (rm : Reg)
  /-- Row 39: ORR: Data Processing, immediate operand 2 (I = 1) (R194). -/
  | orrImm (c : Cond) (s : Bool) (rn : Reg) (rd : Reg) (rot : BitVec 4) (imm : BitVec 8)
  /-- Row 40: ORR: Data Processing, register operand 2 shifted by immediate (I = 0, bit 4 = 0) (R194). -/
  | orrShift (c : Cond) (s : Bool) (rn : Reg) (rd : Reg) (amt : BitVec 5) (ty : ShiftType) (rm : Reg)
  /-- Row 41: ORR: Data Processing, register operand 2 shifted by register (I = 0, bit 7 = 0, bit 4 = 1) (R194). -/
  | orrReg (c : Cond) (s : Bool) (rn : Reg) (rd : Reg) (rs : Reg) (ty : ShiftType) (rm : Reg)
  /-- Row 42: MOV: Data Processing, immediate operand 2 (I = 1) (R195). -/
  | movImm (c : Cond) (s : Bool) (rn : Reg) (rd : Reg) (rot : BitVec 4) (imm : BitVec 8)
  /-- Row 43: MOV: Data Processing, register operand 2 shifted by immediate (I = 0, bit 4 = 0) (R195). -/
  | movShift (c : Cond) (s : Bool) (rn : Reg) (rd : Reg) (amt : BitVec 5) (ty : ShiftType) (rm : Reg)
  /-- Row 44: MOV: Data Processing, register operand 2 shifted by register (I = 0, bit 7 = 0, bit 4 = 1) (R195). -/
  | movReg (c : Cond) (s : Bool) (rn : Reg) (rd : Reg) (rs : Reg) (ty : ShiftType) (rm : Reg)
  /-- Row 45: BIC: Data Processing, immediate operand 2 (I = 1) (R196). -/
  | bicImm (c : Cond) (s : Bool) (rn : Reg) (rd : Reg) (rot : BitVec 4) (imm : BitVec 8)
  /-- Row 46: BIC: Data Processing, register operand 2 shifted by immediate (I = 0, bit 4 = 0) (R196). -/
  | bicShift (c : Cond) (s : Bool) (rn : Reg) (rd : Reg) (amt : BitVec 5) (ty : ShiftType) (rm : Reg)
  /-- Row 47: BIC: Data Processing, register operand 2 shifted by register (I = 0, bit 7 = 0, bit 4 = 1) (R196). -/
  | bicReg (c : Cond) (s : Bool) (rn : Reg) (rd : Reg) (rs : Reg) (ty : ShiftType) (rm : Reg)
  /-- Row 48: MVN: Data Processing, immediate operand 2 (I = 1) (R197). -/
  | mvnImm (c : Cond) (s : Bool) (rn : Reg) (rd : Reg) (rot : BitVec 4) (imm : BitVec 8)
  /-- Row 49: MVN: Data Processing, register operand 2 shifted by immediate (I = 0, bit 4 = 0) (R197). -/
  | mvnShift (c : Cond) (s : Bool) (rn : Reg) (rd : Reg) (amt : BitVec 5) (ty : ShiftType) (rm : Reg)
  /-- Row 50: MVN: Data Processing, register operand 2 shifted by register (I = 0, bit 7 = 0, bit 4 = 1) (R197). -/
  | mvnReg (c : Cond) (s : Bool) (rn : Reg) (rd : Reg) (rs : Reg) (ty : ShiftType) (rm : Reg)
  /-- Row 51: MRS: PSR Transfer: PSR to register (R211). -/
  | mrs (c : Cond) (spsr : Bool) (rd : Reg)
  /-- Row 52: MSR: PSR Transfer: register to whole PSR (R212). -/
  | msrReg (c : Cond) (spsr : Bool) (rm : Reg)
  /-- Row 53: MSR: PSR Transfer: register to PSR flag bits (R213). -/
  | msrFlagsReg (c : Cond) (spsr : Bool) (rm : Reg)
  /-- Row 54: MSR: PSR Transfer: immediate to PSR flag bits (R213). -/
  | msrFlagsImm (c : Cond) (spsr : Bool) (rot : BitVec 4) (imm : BitVec 8)
  /-- Row 55: MUL: Multiply (A = 0) (R221). -/
  | mul (c : Cond) (s : Bool) (rd : Reg) (rn : Reg) (rs : Reg) (rm : Reg)
  /-- Row 56: MLA: Multiply (A = 1) (R223). -/
  | mla (c : Cond) (s : Bool) (rd : Reg) (rn : Reg) (rs : Reg) (rm : Reg)
  /-- Row 57: UMULL: Multiply Long (U = bit 22, A = bit 21) (R229). -/
  | umull (c : Cond) (s : Bool) (hi : Reg) (lo : Reg) (rs : Reg) (rm : Reg)
  /-- Row 58: UMLAL: Multiply Long (U = bit 22, A = bit 21) (R230). -/
  | umlal (c : Cond) (s : Bool) (hi : Reg) (lo : Reg) (rs : Reg) (rm : Reg)
  /-- Row 59: SMULL: Multiply Long (U = bit 22, A = bit 21) (R231). -/
  | smull (c : Cond) (s : Bool) (hi : Reg) (lo : Reg) (rs : Reg) (rm : Reg)
  /-- Row 60: SMLAL: Multiply Long (U = bit 22, A = bit 21) (R232). -/
  | smlal (c : Cond) (s : Bool) (hi : Reg) (lo : Reg) (rs : Reg) (rm : Reg)
  /-- Row 61: STR: Single Data Transfer, pre-indexed (P = 1), immediate offset (I = 0) (R240). -/
  | strImmPre (c : Cond) (u : Bool) (w : Bool) (rn : Reg) (rd : Reg) (off : BitVec 12)
  /-- Row 62: STR: Single Data Transfer, post-indexed (P = 0, W = 0), immediate offset (I = 0) (R240). -/
  | strImmPost (c : Cond) (u : Bool) (rn : Reg) (rd : Reg) (off : BitVec 12)
  /-- Row 63: STRT: Single Data Transfer, post-indexed with translation (P = 0, W = 1), immediate offset (I = 0) (R243). -/
  | strtImm (c : Cond) (u : Bool) (rn : Reg) (rd : Reg) (off : BitVec 12)
  /-- Row 64: STR: Single Data Transfer, pre-indexed (P = 1), register offset (I = 1, bit 4 = 0) (R240). -/
  | strRegPre (c : Cond) (u : Bool) (w : Bool) (rn : Reg) (rd : Reg) (amt : BitVec 5) (ty : ShiftType) (rm : Reg)
  /-- Row 65: STR: Single Data Transfer, post-indexed (P = 0, W = 0), register offset (I = 1, bit 4 = 0) (R240). -/
  | strRegPost (c : Cond) (u : Bool) (rn : Reg) (rd : Reg) (amt : BitVec 5) (ty : ShiftType) (rm : Reg)
  /-- Row 66: STRT: Single Data Transfer, post-indexed with translation (P = 0, W = 1), register offset (I = 1, bit 4 = 0) (R243). -/
  | strtReg (c : Cond) (u : Bool) (rn : Reg) (rd : Reg) (amt : BitVec 5) (ty : ShiftType) (rm : Reg)
  /-- Row 67: LDR: Single Data Transfer, pre-indexed (P = 1), immediate offset (I = 0) (R238). -/
  | ldrImmPre (c : Cond) (u : Bool) (w : Bool) (rn : Reg) (rd : Reg) (off : BitVec 12)
  /-- Row 68: LDR: Single Data Transfer, post-indexed (P = 0, W = 0), immediate offset (I = 0) (R238). -/
  | ldrImmPost (c : Cond) (u : Bool) (rn : Reg) (rd : Reg) (off : BitVec 12)
  /-- Row 69: LDRT: Single Data Transfer, post-indexed with translation (P = 0, W = 1), immediate offset (I = 0) (R243). -/
  | ldrtImm (c : Cond) (u : Bool) (rn : Reg) (rd : Reg) (off : BitVec 12)
  /-- Row 70: LDR: Single Data Transfer, pre-indexed (P = 1), register offset (I = 1, bit 4 = 0) (R238). -/
  | ldrRegPre (c : Cond) (u : Bool) (w : Bool) (rn : Reg) (rd : Reg) (amt : BitVec 5) (ty : ShiftType) (rm : Reg)
  /-- Row 71: LDR: Single Data Transfer, post-indexed (P = 0, W = 0), register offset (I = 1, bit 4 = 0) (R238). -/
  | ldrRegPost (c : Cond) (u : Bool) (rn : Reg) (rd : Reg) (amt : BitVec 5) (ty : ShiftType) (rm : Reg)
  /-- Row 72: LDRT: Single Data Transfer, post-indexed with translation (P = 0, W = 1), register offset (I = 1, bit 4 = 0) (R243). -/
  | ldrtReg (c : Cond) (u : Bool) (rn : Reg) (rd : Reg) (amt : BitVec 5) (ty : ShiftType) (rm : Reg)
  /-- Row 73: STRB: Single Data Transfer, pre-indexed (P = 1), immediate offset (I = 0) (R241). -/
  | strbImmPre (c : Cond) (u : Bool) (w : Bool) (rn : Reg) (rd : Reg) (off : BitVec 12)
  /-- Row 74: STRB: Single Data Transfer, post-indexed (P = 0, W = 0), immediate offset (I = 0) (R241). -/
  | strbImmPost (c : Cond) (u : Bool) (rn : Reg) (rd : Reg) (off : BitVec 12)
  /-- Row 75: STRBT: Single Data Transfer, post-indexed with translation (P = 0, W = 1), immediate offset (I = 0) (R243). -/
  | strbtImm (c : Cond) (u : Bool) (rn : Reg) (rd : Reg) (off : BitVec 12)
  /-- Row 76: STRB: Single Data Transfer, pre-indexed (P = 1), register offset (I = 1, bit 4 = 0) (R241). -/
  | strbRegPre (c : Cond) (u : Bool) (w : Bool) (rn : Reg) (rd : Reg) (amt : BitVec 5) (ty : ShiftType) (rm : Reg)
  /-- Row 77: STRB: Single Data Transfer, post-indexed (P = 0, W = 0), register offset (I = 1, bit 4 = 0) (R241). -/
  | strbRegPost (c : Cond) (u : Bool) (rn : Reg) (rd : Reg) (amt : BitVec 5) (ty : ShiftType) (rm : Reg)
  /-- Row 78: STRBT: Single Data Transfer, post-indexed with translation (P = 0, W = 1), register offset (I = 1, bit 4 = 0) (R243). -/
  | strbtReg (c : Cond) (u : Bool) (rn : Reg) (rd : Reg) (amt : BitVec 5) (ty : ShiftType) (rm : Reg)
  /-- Row 79: LDRB: Single Data Transfer, pre-indexed (P = 1), immediate offset (I = 0) (R239). -/
  | ldrbImmPre (c : Cond) (u : Bool) (w : Bool) (rn : Reg) (rd : Reg) (off : BitVec 12)
  /-- Row 80: LDRB: Single Data Transfer, post-indexed (P = 0, W = 0), immediate offset (I = 0) (R239). -/
  | ldrbImmPost (c : Cond) (u : Bool) (rn : Reg) (rd : Reg) (off : BitVec 12)
  /-- Row 81: LDRBT: Single Data Transfer, post-indexed with translation (P = 0, W = 1), immediate offset (I = 0) (R243). -/
  | ldrbtImm (c : Cond) (u : Bool) (rn : Reg) (rd : Reg) (off : BitVec 12)
  /-- Row 82: LDRB: Single Data Transfer, pre-indexed (P = 1), register offset (I = 1, bit 4 = 0) (R239). -/
  | ldrbRegPre (c : Cond) (u : Bool) (w : Bool) (rn : Reg) (rd : Reg) (amt : BitVec 5) (ty : ShiftType) (rm : Reg)
  /-- Row 83: LDRB: Single Data Transfer, post-indexed (P = 0, W = 0), register offset (I = 1, bit 4 = 0) (R239). -/
  | ldrbRegPost (c : Cond) (u : Bool) (rn : Reg) (rd : Reg) (amt : BitVec 5) (ty : ShiftType) (rm : Reg)
  /-- Row 84: LDRBT: Single Data Transfer, post-indexed with translation (P = 0, W = 1), register offset (I = 1, bit 4 = 0) (R243). -/
  | ldrbtReg (c : Cond) (u : Bool) (rn : Reg) (rd : Reg) (amt : BitVec 5) (ty : ShiftType) (rm : Reg)
  /-- Row 85: STRH: Halfword and Signed Data Transfer, register offset (bit 22 = 0) (R255). -/
  | strhReg (c : Cond) (p : Bool) (u : Bool) (w : Bool) (rn : Reg) (rd : Reg) (rm : Reg)
  /-- Row 86: STRH: Halfword and Signed Data Transfer, immediate offset (bit 22 = 1) (R255). -/
  | strhImm (c : Cond) (p : Bool) (u : Bool) (w : Bool) (rn : Reg) (rd : Reg) (off : BitVec 8)
  /-- Row 87: LDRH: Halfword and Signed Data Transfer, register offset (bit 22 = 0) (R254). -/
  | ldrhReg (c : Cond) (p : Bool) (u : Bool) (w : Bool) (rn : Reg) (rd : Reg) (rm : Reg)
  /-- Row 88: LDRH: Halfword and Signed Data Transfer, immediate offset (bit 22 = 1) (R254). -/
  | ldrhImm (c : Cond) (p : Bool) (u : Bool) (w : Bool) (rn : Reg) (rd : Reg) (off : BitVec 8)
  /-- Row 89: LDRSB: Halfword and Signed Data Transfer, register offset (bit 22 = 0) (R256). -/
  | ldrsbReg (c : Cond) (p : Bool) (u : Bool) (w : Bool) (rn : Reg) (rd : Reg) (rm : Reg)
  /-- Row 90: LDRSB: Halfword and Signed Data Transfer, immediate offset (bit 22 = 1) (R256). -/
  | ldrsbImm (c : Cond) (p : Bool) (u : Bool) (w : Bool) (rn : Reg) (rd : Reg) (off : BitVec 8)
  /-- Row 91: LDRSH: Halfword and Signed Data Transfer, register offset (bit 22 = 0) (R257). -/
  | ldrshReg (c : Cond) (p : Bool) (u : Bool) (w : Bool) (rn : Reg) (rd : Reg) (rm : Reg)
  /-- Row 92: LDRSH: Halfword and Signed Data Transfer, immediate offset (bit 22 = 1) (R257). -/
  | ldrshImm (c : Cond) (p : Bool) (u : Bool) (w : Bool) (rn : Reg) (rd : Reg) (off : BitVec 8)
  /-- Row 93: STM: Block Data Transfer (L = 0) (R271). -/
  | stm (c : Cond) (p : Bool) (u : Bool) (s : Bool) (w : Bool) (rn : Reg) (list : BitVec 16)
  /-- Row 94: LDM: Block Data Transfer (L = 1) (R270). -/
  | ldm (c : Cond) (p : Bool) (u : Bool) (s : Bool) (w : Bool) (rn : Reg) (list : BitVec 16)
  /-- Row 95: SWP: Single Data Swap (B = 0) (R285). -/
  | swp (c : Cond) (rn : Reg) (rd : Reg) (rm : Reg)
  /-- Row 96: SWPB: Single Data Swap (B = 1) (R286). -/
  | swpb (c : Cond) (rn : Reg) (rd : Reg) (rm : Reg)
  /-- Row 97: SWI: Software Interrupt (R291). -/
  | swi (c : Cond) (comment : BitVec 24)
  /-- Row 98: CDP: Coprocessor Data Operation (R299). -/
  | cdp (c : Cond) (opc : BitVec 4) (crn : BitVec 4) (crd : BitVec 4) (cp : BitVec 4) (info : BitVec 3) (crm : BitVec 4)
  /-- Row 99: STC: Coprocessor Data Transfer (L = 0) (R303). -/
  | stc (c : Cond) (p : Bool) (u : Bool) (n : Bool) (w : Bool) (rn : Reg) (crd : BitVec 4) (cp : BitVec 4) (off : BitVec 8)
  /-- Row 100: LDC: Coprocessor Data Transfer (L = 1) (R302). -/
  | ldc (c : Cond) (p : Bool) (u : Bool) (n : Bool) (w : Bool) (rn : Reg) (crd : BitVec 4) (cp : BitVec 4) (off : BitVec 8)
  /-- Row 101: MCR: Coprocessor Register Transfer (L = 0) (R307). -/
  | mcr (c : Cond) (opc : BitVec 3) (crn : BitVec 4) (rd : Reg) (cp : BitVec 4) (info : BitVec 3) (crm : BitVec 4)
  /-- Row 102: MRC: Coprocessor Register Transfer (L = 1) (R306). -/
  | mrc (c : Cond) (opc : BitVec 3) (crn : BitVec 4) (rd : Reg) (cp : BitVec 4) (info : BitVec 3) (crm : BitVec 4)
  /-- Row 103: UNDEFINED: Undefined (R310). -/
  | undef (c : Cond) (x : BitVec 20) (y : BitVec 4)
  /-- Row 104: LSL: Format 1: move shifted register (R317). -/
  | tLslImm (off : BitVec 5) (rs : LoReg) (rd : LoReg)
  /-- Row 105: LSR: Format 1: move shifted register (R318). -/
  | tLsrImm (off : BitVec 5) (rs : LoReg) (rd : LoReg)
  /-- Row 106: ASR: Format 1: move shifted register (R319). -/
  | tAsrImm (off : BitVec 5) (rs : LoReg) (rd : LoReg)
  /-- Row 107: ADD: Format 2: add/subtract (register, I = 0) (R321). -/
  | tAddReg (rn : LoReg) (rs : LoReg) (rd : LoReg)
  /-- Row 108: SUB: Format 2: add/subtract (register, I = 0) (R323). -/
  | tSubReg (rn : LoReg) (rs : LoReg) (rd : LoReg)
  /-- Row 109: ADD: Format 2: add/subtract (3-bit immediate, I = 1) (R322). -/
  | tAddImm3 (off : BitVec 3) (rs : LoReg) (rd : LoReg)
  /-- Row 110: SUB: Format 2: add/subtract (3-bit immediate, I = 1) (R324). -/
  | tSubImm3 (off : BitVec 3) (rs : LoReg) (rd : LoReg)
  /-- Row 111: MOV: Format 3: move/compare/add/subtract immediate (R326). -/
  | tMovImm (rd : LoReg) (off : BitVec 8)
  /-- Row 112: CMP: Format 3: move/compare/add/subtract immediate (R327). -/
  | tCmpImm (rd : LoReg) (off : BitVec 8)
  /-- Row 113: ADD: Format 3: move/compare/add/subtract immediate (R328). -/
  | tAddImm8 (rd : LoReg) (off : BitVec 8)
  /-- Row 114: SUB: Format 3: move/compare/add/subtract immediate (R329). -/
  | tSubImm8 (rd : LoReg) (off : BitVec 8)
  /-- Row 115: AND: Format 4: ALU operations (R331). -/
  | tAnd (rs : LoReg) (rd : LoReg)
  /-- Row 116: EOR: Format 4: ALU operations (R332). -/
  | tEor (rs : LoReg) (rd : LoReg)
  /-- Row 117: LSL: Format 4: ALU operations (R333). -/
  | tLslReg (rs : LoReg) (rd : LoReg)
  /-- Row 118: LSR: Format 4: ALU operations (R334). -/
  | tLsrReg (rs : LoReg) (rd : LoReg)
  /-- Row 119: ASR: Format 4: ALU operations (R335). -/
  | tAsrReg (rs : LoReg) (rd : LoReg)
  /-- Row 120: ADC: Format 4: ALU operations (R336). -/
  | tAdc (rs : LoReg) (rd : LoReg)
  /-- Row 121: SBC: Format 4: ALU operations (R337). -/
  | tSbc (rs : LoReg) (rd : LoReg)
  /-- Row 122: ROR: Format 4: ALU operations (R338). -/
  | tRorReg (rs : LoReg) (rd : LoReg)
  /-- Row 123: TST: Format 4: ALU operations (R339). -/
  | tTst (rs : LoReg) (rd : LoReg)
  /-- Row 124: NEG: Format 4: ALU operations (R340). -/
  | tNeg (rs : LoReg) (rd : LoReg)
  /-- Row 125: CMP: Format 4: ALU operations (R341). -/
  | tCmp (rs : LoReg) (rd : LoReg)
  /-- Row 126: CMN: Format 4: ALU operations (R342). -/
  | tCmn (rs : LoReg) (rd : LoReg)
  /-- Row 127: ORR: Format 4: ALU operations (R343). -/
  | tOrr (rs : LoReg) (rd : LoReg)
  /-- Row 128: MUL: Format 4: ALU operations (R344). -/
  | tMul (rs : LoReg) (rd : LoReg)
  /-- Row 129: BIC: Format 4: ALU operations (R345). -/
  | tBic (rs : LoReg) (rd : LoReg)
  /-- Row 130: MVN: Format 4: ALU operations (R346). -/
  | tMvn (rs : LoReg) (rd : LoReg)
  /-- Row 131: ADD: Format 5: Hi register operations (ADD Rd, Hs; H1 = 0, H2 = 1) (R348). -/
  | tAddLoHi (rs : LoReg) (rd : LoReg)
  /-- Row 132: ADD: Format 5: Hi register operations (ADD Hd, Rs; H1 = 1, H2 = 0) (R348). -/
  | tAddHiLo (rs : LoReg) (rd : LoReg)
  /-- Row 133: ADD: Format 5: Hi register operations (ADD Hd, Hs; H1 = 1, H2 = 1) (R348). -/
  | tAddHiHi (rs : LoReg) (rd : LoReg)
  /-- Row 134: UNPREDICTABLE: Format 5: ADD with H1 = 0, H2 = 0 (R353). -/
  | tAddLoLo (rs : LoReg) (rd : LoReg)
  /-- Row 135: CMP: Format 5: Hi register operations (CMP Rd, Hs; H1 = 0, H2 = 1) (R349). -/
  | tCmpLoHi (rs : LoReg) (rd : LoReg)
  /-- Row 136: CMP: Format 5: Hi register operations (CMP Hd, Rs; H1 = 1, H2 = 0) (R349). -/
  | tCmpHiLo (rs : LoReg) (rd : LoReg)
  /-- Row 137: CMP: Format 5: Hi register operations (CMP Hd, Hs; H1 = 1, H2 = 1) (R349). -/
  | tCmpHiHi (rs : LoReg) (rd : LoReg)
  /-- Row 138: UNPREDICTABLE: Format 5: CMP with H1 = 0, H2 = 0 (R353). -/
  | tCmpLoLo (rs : LoReg) (rd : LoReg)
  /-- Row 139: MOV: Format 5: Hi register operations (MOV Rd, Hs; H1 = 0, H2 = 1) (R350). -/
  | tMovLoHi (rs : LoReg) (rd : LoReg)
  /-- Row 140: MOV: Format 5: Hi register operations (MOV Hd, Rs; H1 = 1, H2 = 0) (R350). -/
  | tMovHiLo (rs : LoReg) (rd : LoReg)
  /-- Row 141: MOV: Format 5: Hi register operations (MOV Hd, Hs; H1 = 1, H2 = 1) (R350). -/
  | tMovHiHi (rs : LoReg) (rd : LoReg)
  /-- Row 142: UNPREDICTABLE: Format 5: MOV with H1 = 0, H2 = 0 (R353). -/
  | tMovLoLo (rs : LoReg) (rd : LoReg)
  /-- Row 143: BX: Format 5: branch exchange (BX Rs; H1 = 0, H2 = 0) (R352). -/
  | tBxLo (rs : LoReg) (x : BitVec 3)
  /-- Row 144: BX: Format 5: branch exchange (BX Hs; H1 = 0, H2 = 1) (R352). -/
  | tBxHi (rs : LoReg) (x : BitVec 3)
  /-- Row 145: UNPREDICTABLE: Format 5: BX with H1 = 1 (R353). -/
  | tBxH1 (h2 : Bool) (rs : LoReg) (x : BitVec 3)
  /-- Row 146: LDR: Format 6: PC-relative load (R372). -/
  | tLdrPc (rd : LoReg) (imm : BitVec 8)
  /-- Row 147: STR: Format 7: load/store with register offset (R374). -/
  | tStrReg (ro : LoReg) (rb : LoReg) (rd : LoReg)
  /-- Row 148: STRB: Format 7: load/store with register offset (R375). -/
  | tStrbReg (ro : LoReg) (rb : LoReg) (rd : LoReg)
  /-- Row 149: LDR: Format 7: load/store with register offset (R376). -/
  | tLdrReg (ro : LoReg) (rb : LoReg) (rd : LoReg)
  /-- Row 150: LDRB: Format 7: load/store with register offset (R377). -/
  | tLdrbReg (ro : LoReg) (rb : LoReg) (rd : LoReg)
  /-- Row 151: STRH: Format 8: load/store sign-extended byte/halfword (R379). -/
  | tStrhReg (ro : LoReg) (rb : LoReg) (rd : LoReg)
  /-- Row 152: LDRH: Format 8: load/store sign-extended byte/halfword (R380). -/
  | tLdrhReg (ro : LoReg) (rb : LoReg) (rd : LoReg)
  /-- Row 153: LDSB: Format 8: load/store sign-extended byte/halfword (R381). -/
  | tLdsbReg (ro : LoReg) (rb : LoReg) (rd : LoReg)
  /-- Row 154: LDSH: Format 8: load/store sign-extended byte/halfword (R382). -/
  | tLdshReg (ro : LoReg) (rb : LoReg) (rd : LoReg)
  /-- Row 155: STR: Format 9: load/store with immediate offset (R384). -/
  | tStrImm (off : BitVec 5) (rb : LoReg) (rd : LoReg)
  /-- Row 156: LDR: Format 9: load/store with immediate offset (R385). -/
  | tLdrImm (off : BitVec 5) (rb : LoReg) (rd : LoReg)
  /-- Row 157: STRB: Format 9: load/store with immediate offset (R386). -/
  | tStrbImm (off : BitVec 5) (rb : LoReg) (rd : LoReg)
  /-- Row 158: LDRB: Format 9: load/store with immediate offset (R387). -/
  | tLdrbImm (off : BitVec 5) (rb : LoReg) (rd : LoReg)
  /-- Row 159: STRH: Format 10: load/store halfword (R388). -/
  | tStrhImm (off : BitVec 5) (rb : LoReg) (rd : LoReg)
  /-- Row 160: LDRH: Format 10: load/store halfword (R389). -/
  | tLdrhImm (off : BitVec 5) (rb : LoReg) (rd : LoReg)
  /-- Row 161: STR: Format 11: SP-relative load/store (R390). -/
  | tStrSp (rd : LoReg) (imm : BitVec 8)
  /-- Row 162: LDR: Format 11: SP-relative load/store (R391). -/
  | tLdrSp (rd : LoReg) (imm : BitVec 8)
  /-- Row 163: ADD: Format 12: load address (ADD Rd, PC, #Imm) (R355). -/
  | tAddPc (rd : LoReg) (imm : BitVec 8)
  /-- Row 164: ADD: Format 12: load address (ADD Rd, SP, #Imm) (R356). -/
  | tAddSp (rd : LoReg) (imm : BitVec 8)
  /-- Row 165: ADD: Format 13: add offset to Stack Pointer (ADD SP, #Imm; S = 0) (R358). -/
  | tAddSpPos (imm : BitVec 7)
  /-- Row 166: ADD: Format 13: add offset to Stack Pointer (ADD SP, #-Imm; S = 1) (R358). -/
  | tAddSpNeg (imm : BitVec 7)
  /-- Row 167: PUSH: Format 14: push/pop registers (PUSH { Rlist }) (R394). -/
  | tPush (list : BitVec 8)
  /-- Row 168: PUSH: Format 14: push/pop registers (PUSH { Rlist, LR }) (R395). -/
  | tPushLr (list : BitVec 8)
  /-- Row 169: POP: Format 14: push/pop registers (POP { Rlist }) (R397). -/
  | tPop (list : BitVec 8)
  /-- Row 170: POP: Format 14: push/pop registers (POP { Rlist, PC }) (R396). -/
  | tPopPc (list : BitVec 8)
  /-- Row 171: STMIA: Format 15: multiple load/store (L = 0) (R399). -/
  | tStmia (rb : LoReg) (list : BitVec 8)
  /-- Row 172: LDMIA: Format 15: multiple load/store (L = 1) (R400). -/
  | tLdmia (rb : LoReg) (list : BitVec 8)
  /-- Row 173: BEQ: Format 16: conditional branch (Cond = 0000) (R411). -/
  | tBeq (off : BitVec 8)
  /-- Row 174: BNE: Format 16: conditional branch (Cond = 0001) (R411). -/
  | tBne (off : BitVec 8)
  /-- Row 175: BCS: Format 16: conditional branch (Cond = 0010) (R411). -/
  | tBcs (off : BitVec 8)
  /-- Row 176: BCC: Format 16: conditional branch (Cond = 0011) (R411). -/
  | tBcc (off : BitVec 8)
  /-- Row 177: BMI: Format 16: conditional branch (Cond = 0100) (R411). -/
  | tBmi (off : BitVec 8)
  /-- Row 178: BPL: Format 16: conditional branch (Cond = 0101) (R411). -/
  | tBpl (off : BitVec 8)
  /-- Row 179: BVS: Format 16: conditional branch (Cond = 0110) (R411). -/
  | tBvs (off : BitVec 8)
  /-- Row 180: BVC: Format 16: conditional branch (Cond = 0111) (R411). -/
  | tBvc (off : BitVec 8)
  /-- Row 181: BHI: Format 16: conditional branch (Cond = 1000) (R411). -/
  | tBhi (off : BitVec 8)
  /-- Row 182: BLS: Format 16: conditional branch (Cond = 1001) (R411). -/
  | tBls (off : BitVec 8)
  /-- Row 183: BGE: Format 16: conditional branch (Cond = 1010) (R411). -/
  | tBge (off : BitVec 8)
  /-- Row 184: BLT: Format 16: conditional branch (Cond = 1011) (R411). -/
  | tBlt (off : BitVec 8)
  /-- Row 185: BGT: Format 16: conditional branch (Cond = 1100) (R411). -/
  | tBgt (off : BitVec 8)
  /-- Row 186: BLE: Format 16: conditional branch (Cond = 1101) (R411). -/
  | tBle (off : BitVec 8)
  /-- Row 187: UNDEFINED: Format 16 with Cond = 1110 (R412). -/
  | tUndefCond (x : BitVec 8)
  /-- Row 188: SWI: Format 17: software interrupt (R413). -/
  | tSwi (comment : BitVec 8)
  /-- Row 189: B: Format 18: unconditional branch (R414). -/
  | tB (off : BitVec 11)
  /-- Row 190: BL: Format 19: long branch with link, first instruction (H = 0) (R416). -/
  | tBlHigh (off : BitVec 11)
  /-- Row 191: BL: Format 19: long branch with link, second instruction (H = 1) (R417). -/
  | tBlLow (off : BitVec 11)
  /-- Row 192: UNDEFINED: unallocated (set T1 of rule R131) (R131). -/
  | tUndefB1 (x : BitVec 8)
  /-- Row 193: UNDEFINED: unallocated (set T1 of rule R131) (R131). -/
  | tUndefB2 (x : BitVec 9)
  /-- Row 194: UNDEFINED: unallocated (set T1 of rule R131) (R131). -/
  | tUndefB6 (x : BitVec 9)
  /-- Row 195: UNDEFINED: unallocated (set T1 of rule R131) (R131). -/
  | tUndefB8 (x : BitVec 10)
  /-- Row 196: UNDEFINED: unallocated (set T1 of rule R131) (R131). -/
  | tUndefBe (x : BitVec 9)
  /-- Row 197: UNDEFINED: unallocated (set T2 of rule R131) (R131). -/
  | tUndefE8 (x : BitVec 11)
  deriving DecidableEq, Repr

namespace Instr

/-- The twelve result-writing operations, immediate operand 2 (I = 1, 41 R174). -/
def aluImm (op : AluOp) (c : Cond) (s : Bool) (rn : Reg) (rd : Reg) (rot : BitVec 4) (imm : BitVec 8) : Instr :=
  match op with
  | .and => .andImm c s rn rd rot imm
  | .eor => .eorImm c s rn rd rot imm
  | .sub => .subImm c s rn rd rot imm
  | .rsb => .rsbImm c s rn rd rot imm
  | .add => .addImm c s rn rd rot imm
  | .adc => .adcImm c s rn rd rot imm
  | .sbc => .sbcImm c s rn rd rot imm
  | .rsc => .rscImm c s rn rd rot imm
  | .orr => .orrImm c s rn rd rot imm
  | .mov => .movImm c s rn rd rot imm
  | .bic => .bicImm c s rn rd rot imm
  | .mvn => .mvnImm c s rn rd rot imm

/-- The four test operations, immediate operand 2 (I = 1, 41 R174). -/
def testImm (op : TestOp) (c : Cond) (rn : Reg) (rd : Reg) (rot : BitVec 4) (imm : BitVec 8) : Instr :=
  match op with
  | .tst => .tstImm c rn rd rot imm
  | .teq => .teqImm c rn rd rot imm
  | .cmp => .cmpImm c rn rd rot imm
  | .cmn => .cmnImm c rn rd rot imm

/-- The twelve result-writing operations, operand 2 shifted by an immediate amount (41 R172). -/
def aluShift (op : AluOp) (c : Cond) (s : Bool) (rn : Reg) (rd : Reg) (amt : BitVec 5) (ty : ShiftType) (rm : Reg) : Instr :=
  match op with
  | .and => .andShift c s rn rd amt ty rm
  | .eor => .eorShift c s rn rd amt ty rm
  | .sub => .subShift c s rn rd amt ty rm
  | .rsb => .rsbShift c s rn rd amt ty rm
  | .add => .addShift c s rn rd amt ty rm
  | .adc => .adcShift c s rn rd amt ty rm
  | .sbc => .sbcShift c s rn rd amt ty rm
  | .rsc => .rscShift c s rn rd amt ty rm
  | .orr => .orrShift c s rn rd amt ty rm
  | .mov => .movShift c s rn rd amt ty rm
  | .bic => .bicShift c s rn rd amt ty rm
  | .mvn => .mvnShift c s rn rd amt ty rm

/-- The four test operations, operand 2 shifted by an immediate amount (41 R172). -/
def testShift (op : TestOp) (c : Cond) (rn : Reg) (rd : Reg) (amt : BitVec 5) (ty : ShiftType) (rm : Reg) : Instr :=
  match op with
  | .tst => .tstShift c rn rd amt ty rm
  | .teq => .teqShift c rn rd amt ty rm
  | .cmp => .cmpShift c rn rd amt ty rm
  | .cmn => .cmnShift c rn rd amt ty rm

/-- The twelve result-writing operations, operand 2 shifted by a register amount (41 R173). -/
def aluReg (op : AluOp) (c : Cond) (s : Bool) (rn : Reg) (rd : Reg) (rs : Reg) (ty : ShiftType) (rm : Reg) : Instr :=
  match op with
  | .and => .andReg c s rn rd rs ty rm
  | .eor => .eorReg c s rn rd rs ty rm
  | .sub => .subReg c s rn rd rs ty rm
  | .rsb => .rsbReg c s rn rd rs ty rm
  | .add => .addReg c s rn rd rs ty rm
  | .adc => .adcReg c s rn rd rs ty rm
  | .sbc => .sbcReg c s rn rd rs ty rm
  | .rsc => .rscReg c s rn rd rs ty rm
  | .orr => .orrReg c s rn rd rs ty rm
  | .mov => .movReg c s rn rd rs ty rm
  | .bic => .bicReg c s rn rd rs ty rm
  | .mvn => .mvnReg c s rn rd rs ty rm

/-- The four test operations, operand 2 shifted by a register amount (41 R173). -/
def testReg (op : TestOp) (c : Cond) (rn : Reg) (rd : Reg) (rs : Reg) (ty : ShiftType) (rm : Reg) : Instr :=
  match op with
  | .tst => .tstReg c rn rd rs ty rm
  | .teq => .teqReg c rn rd rs ty rm
  | .cmp => .cmpReg c rn rd rs ty rm
  | .cmn => .cmnReg c rn rd rs ty rm

/-- The four long multiplies (43 R227). -/
def mulLong (op : LongOp) (c : Cond) (s : Bool) (hi : Reg) (lo : Reg) (rs : Reg) (rm : Reg) : Instr :=
  match op with
  | .umull => .umull c s hi lo rs rm
  | .umlal => .umlal c s hi lo rs rm
  | .smull => .smull c s hi lo rs rm
  | .smlal => .smlal c s hi lo rs rm

/-- LDR, STR, LDRB, STRB, form ImmPre (44 R235). -/
def sdtImmPre (op : SdtOp) (c : Cond) (u : Bool) (w : Bool) (rn : Reg) (rd : Reg) (off : BitVec 12) : Instr :=
  match op with
  | .str => .strImmPre c u w rn rd off
  | .ldr => .ldrImmPre c u w rn rd off
  | .strb => .strbImmPre c u w rn rd off
  | .ldrb => .ldrbImmPre c u w rn rd off

/-- LDR, STR, LDRB, STRB, form ImmPost (44 R235). -/
def sdtImmPost (op : SdtOp) (c : Cond) (u : Bool) (rn : Reg) (rd : Reg) (off : BitVec 12) : Instr :=
  match op with
  | .str => .strImmPost c u rn rd off
  | .ldr => .ldrImmPost c u rn rd off
  | .strb => .strbImmPost c u rn rd off
  | .ldrb => .ldrbImmPost c u rn rd off

/-- LDR, STR, LDRB, STRB, form RegPre (44 R235). -/
def sdtRegPre (op : SdtOp) (c : Cond) (u : Bool) (w : Bool) (rn : Reg) (rd : Reg) (amt : BitVec 5) (ty : ShiftType) (rm : Reg) : Instr :=
  match op with
  | .str => .strRegPre c u w rn rd amt ty rm
  | .ldr => .ldrRegPre c u w rn rd amt ty rm
  | .strb => .strbRegPre c u w rn rd amt ty rm
  | .ldrb => .ldrbRegPre c u w rn rd amt ty rm

/-- LDR, STR, LDRB, STRB, form RegPost (44 R235). -/
def sdtRegPost (op : SdtOp) (c : Cond) (u : Bool) (rn : Reg) (rd : Reg) (amt : BitVec 5) (ty : ShiftType) (rm : Reg) : Instr :=
  match op with
  | .str => .strRegPost c u rn rd amt ty rm
  | .ldr => .ldrRegPost c u rn rd amt ty rm
  | .strb => .strbRegPost c u rn rd amt ty rm
  | .ldrb => .ldrbRegPost c u rn rd amt ty rm

/-- LDRT, STRT, LDRBT, STRBT, form Imm (44 R243). -/
def sdtTImm (op : SdtOp) (c : Cond) (u : Bool) (rn : Reg) (rd : Reg) (off : BitVec 12) : Instr :=
  match op with
  | .str => .strtImm c u rn rd off
  | .ldr => .ldrtImm c u rn rd off
  | .strb => .strbtImm c u rn rd off
  | .ldrb => .ldrbtImm c u rn rd off

/-- LDRT, STRT, LDRBT, STRBT, form Reg (44 R243). -/
def sdtTReg (op : SdtOp) (c : Cond) (u : Bool) (rn : Reg) (rd : Reg) (amt : BitVec 5) (ty : ShiftType) (rm : Reg) : Instr :=
  match op with
  | .str => .strtReg c u rn rd amt ty rm
  | .ldr => .ldrtReg c u rn rd amt ty rm
  | .strb => .strbtReg c u rn rd amt ty rm
  | .ldrb => .ldrbtReg c u rn rd amt ty rm

/-- STRH, LDRH, LDRSB, LDRSH, register offset (44 R251). -/
def hdtReg (op : HdtOp) (c : Cond) (p : Bool) (u : Bool) (w : Bool) (rn : Reg) (rd : Reg) (rm : Reg) : Instr :=
  match op with
  | .strh => .strhReg c p u w rn rd rm
  | .ldrh => .ldrhReg c p u w rn rd rm
  | .ldrsb => .ldrsbReg c p u w rn rd rm
  | .ldrsh => .ldrshReg c p u w rn rd rm

/-- STRH, LDRH, LDRSB, LDRSH, immediate offset (44 R252). -/
def hdtImm (op : HdtOp) (c : Cond) (p : Bool) (u : Bool) (w : Bool) (rn : Reg) (rd : Reg) (off : BitVec 8) : Instr :=
  match op with
  | .strh => .strhImm c p u w rn rd off
  | .ldrh => .ldrhImm c p u w rn rd off
  | .ldrsb => .ldrsbImm c p u w rn rd off
  | .ldrsh => .ldrshImm c p u w rn rd off

/-- THUMB Format 4 (47 R330). -/
def tAlu (op : ThumbAluOp) (rs : LoReg) (rd : LoReg) : Instr :=
  match op with
  | .and => .tAnd rs rd
  | .eor => .tEor rs rd
  | .lsl => .tLslReg rs rd
  | .lsr => .tLsrReg rs rd
  | .asr => .tAsrReg rs rd
  | .adc => .tAdc rs rd
  | .sbc => .tSbc rs rd
  | .ror => .tRorReg rs rd
  | .tst => .tTst rs rd
  | .neg => .tNeg rs rd
  | .cmp => .tCmp rs rd
  | .cmn => .tCmn rs rd
  | .orr => .tOrr rs rd
  | .mul => .tMul rs rd
  | .bic => .tBic rs rd
  | .mvn => .tMvn rs rd

/-- THUMB Format 16 (49 R411). -/
def tBcond (op : ThumbCond) (off : BitVec 8) : Instr :=
  match op with
  | .eq => .tBeq off
  | .ne => .tBne off
  | .cs => .tBcs off
  | .cc => .tBcc off
  | .mi => .tBmi off
  | .pl => .tBpl off
  | .vs => .tBvs off
  | .vc => .tBvc off
  | .hi => .tBhi off
  | .ls => .tBls off
  | .ge => .tBge off
  | .lt => .tBlt off
  | .gt => .tBgt off
  | .le => .tBle off

/-- The condition field of an ARM instruction; a THUMB instruction has none (30 R104, R100). -/
def cond? : Instr → Option Cond
  | .bx c _ => some c
  | .b c _ => some c
  | .bl c _ => some c
  | .andImm c _ _ _ _ _ => some c
  | .andShift c _ _ _ _ _ _ => some c
  | .andReg c _ _ _ _ _ _ => some c
  | .eorImm c _ _ _ _ _ => some c
  | .eorShift c _ _ _ _ _ _ => some c
  | .eorReg c _ _ _ _ _ _ => some c
  | .subImm c _ _ _ _ _ => some c
  | .subShift c _ _ _ _ _ _ => some c
  | .subReg c _ _ _ _ _ _ => some c
  | .rsbImm c _ _ _ _ _ => some c
  | .rsbShift c _ _ _ _ _ _ => some c
  | .rsbReg c _ _ _ _ _ _ => some c
  | .addImm c _ _ _ _ _ => some c
  | .addShift c _ _ _ _ _ _ => some c
  | .addReg c _ _ _ _ _ _ => some c
  | .adcImm c _ _ _ _ _ => some c
  | .adcShift c _ _ _ _ _ _ => some c
  | .adcReg c _ _ _ _ _ _ => some c
  | .sbcImm c _ _ _ _ _ => some c
  | .sbcShift c _ _ _ _ _ _ => some c
  | .sbcReg c _ _ _ _ _ _ => some c
  | .rscImm c _ _ _ _ _ => some c
  | .rscShift c _ _ _ _ _ _ => some c
  | .rscReg c _ _ _ _ _ _ => some c
  | .tstImm c _ _ _ _ => some c
  | .tstShift c _ _ _ _ _ => some c
  | .tstReg c _ _ _ _ _ => some c
  | .teqImm c _ _ _ _ => some c
  | .teqShift c _ _ _ _ _ => some c
  | .teqReg c _ _ _ _ _ => some c
  | .cmpImm c _ _ _ _ => some c
  | .cmpShift c _ _ _ _ _ => some c
  | .cmpReg c _ _ _ _ _ => some c
  | .cmnImm c _ _ _ _ => some c
  | .cmnShift c _ _ _ _ _ => some c
  | .cmnReg c _ _ _ _ _ => some c
  | .orrImm c _ _ _ _ _ => some c
  | .orrShift c _ _ _ _ _ _ => some c
  | .orrReg c _ _ _ _ _ _ => some c
  | .movImm c _ _ _ _ _ => some c
  | .movShift c _ _ _ _ _ _ => some c
  | .movReg c _ _ _ _ _ _ => some c
  | .bicImm c _ _ _ _ _ => some c
  | .bicShift c _ _ _ _ _ _ => some c
  | .bicReg c _ _ _ _ _ _ => some c
  | .mvnImm c _ _ _ _ _ => some c
  | .mvnShift c _ _ _ _ _ _ => some c
  | .mvnReg c _ _ _ _ _ _ => some c
  | .mrs c _ _ => some c
  | .msrReg c _ _ => some c
  | .msrFlagsReg c _ _ => some c
  | .msrFlagsImm c _ _ _ => some c
  | .mul c _ _ _ _ _ => some c
  | .mla c _ _ _ _ _ => some c
  | .umull c _ _ _ _ _ => some c
  | .umlal c _ _ _ _ _ => some c
  | .smull c _ _ _ _ _ => some c
  | .smlal c _ _ _ _ _ => some c
  | .strImmPre c _ _ _ _ _ => some c
  | .strImmPost c _ _ _ _ => some c
  | .strtImm c _ _ _ _ => some c
  | .strRegPre c _ _ _ _ _ _ _ => some c
  | .strRegPost c _ _ _ _ _ _ => some c
  | .strtReg c _ _ _ _ _ _ => some c
  | .ldrImmPre c _ _ _ _ _ => some c
  | .ldrImmPost c _ _ _ _ => some c
  | .ldrtImm c _ _ _ _ => some c
  | .ldrRegPre c _ _ _ _ _ _ _ => some c
  | .ldrRegPost c _ _ _ _ _ _ => some c
  | .ldrtReg c _ _ _ _ _ _ => some c
  | .strbImmPre c _ _ _ _ _ => some c
  | .strbImmPost c _ _ _ _ => some c
  | .strbtImm c _ _ _ _ => some c
  | .strbRegPre c _ _ _ _ _ _ _ => some c
  | .strbRegPost c _ _ _ _ _ _ => some c
  | .strbtReg c _ _ _ _ _ _ => some c
  | .ldrbImmPre c _ _ _ _ _ => some c
  | .ldrbImmPost c _ _ _ _ => some c
  | .ldrbtImm c _ _ _ _ => some c
  | .ldrbRegPre c _ _ _ _ _ _ _ => some c
  | .ldrbRegPost c _ _ _ _ _ _ => some c
  | .ldrbtReg c _ _ _ _ _ _ => some c
  | .strhReg c _ _ _ _ _ _ => some c
  | .strhImm c _ _ _ _ _ _ => some c
  | .ldrhReg c _ _ _ _ _ _ => some c
  | .ldrhImm c _ _ _ _ _ _ => some c
  | .ldrsbReg c _ _ _ _ _ _ => some c
  | .ldrsbImm c _ _ _ _ _ _ => some c
  | .ldrshReg c _ _ _ _ _ _ => some c
  | .ldrshImm c _ _ _ _ _ _ => some c
  | .stm c _ _ _ _ _ _ => some c
  | .ldm c _ _ _ _ _ _ => some c
  | .swp c _ _ _ => some c
  | .swpb c _ _ _ => some c
  | .swi c _ => some c
  | .cdp c _ _ _ _ _ _ => some c
  | .stc c _ _ _ _ _ _ _ _ => some c
  | .ldc c _ _ _ _ _ _ _ _ => some c
  | .mcr c _ _ _ _ _ _ => some c
  | .mrc c _ _ _ _ _ _ => some c
  | .undef c _ _ => some c
  | .tLslImm _ _ _ => none
  | .tLsrImm _ _ _ => none
  | .tAsrImm _ _ _ => none
  | .tAddReg _ _ _ => none
  | .tSubReg _ _ _ => none
  | .tAddImm3 _ _ _ => none
  | .tSubImm3 _ _ _ => none
  | .tMovImm _ _ => none
  | .tCmpImm _ _ => none
  | .tAddImm8 _ _ => none
  | .tSubImm8 _ _ => none
  | .tAnd _ _ => none
  | .tEor _ _ => none
  | .tLslReg _ _ => none
  | .tLsrReg _ _ => none
  | .tAsrReg _ _ => none
  | .tAdc _ _ => none
  | .tSbc _ _ => none
  | .tRorReg _ _ => none
  | .tTst _ _ => none
  | .tNeg _ _ => none
  | .tCmp _ _ => none
  | .tCmn _ _ => none
  | .tOrr _ _ => none
  | .tMul _ _ => none
  | .tBic _ _ => none
  | .tMvn _ _ => none
  | .tAddLoHi _ _ => none
  | .tAddHiLo _ _ => none
  | .tAddHiHi _ _ => none
  | .tAddLoLo _ _ => none
  | .tCmpLoHi _ _ => none
  | .tCmpHiLo _ _ => none
  | .tCmpHiHi _ _ => none
  | .tCmpLoLo _ _ => none
  | .tMovLoHi _ _ => none
  | .tMovHiLo _ _ => none
  | .tMovHiHi _ _ => none
  | .tMovLoLo _ _ => none
  | .tBxLo _ _ => none
  | .tBxHi _ _ => none
  | .tBxH1 _ _ _ => none
  | .tLdrPc _ _ => none
  | .tStrReg _ _ _ => none
  | .tStrbReg _ _ _ => none
  | .tLdrReg _ _ _ => none
  | .tLdrbReg _ _ _ => none
  | .tStrhReg _ _ _ => none
  | .tLdrhReg _ _ _ => none
  | .tLdsbReg _ _ _ => none
  | .tLdshReg _ _ _ => none
  | .tStrImm _ _ _ => none
  | .tLdrImm _ _ _ => none
  | .tStrbImm _ _ _ => none
  | .tLdrbImm _ _ _ => none
  | .tStrhImm _ _ _ => none
  | .tLdrhImm _ _ _ => none
  | .tStrSp _ _ => none
  | .tLdrSp _ _ => none
  | .tAddPc _ _ => none
  | .tAddSp _ _ => none
  | .tAddSpPos _ => none
  | .tAddSpNeg _ => none
  | .tPush _ => none
  | .tPushLr _ => none
  | .tPop _ => none
  | .tPopPc _ => none
  | .tStmia _ _ => none
  | .tLdmia _ _ => none
  | .tBeq _ => none
  | .tBne _ => none
  | .tBcs _ => none
  | .tBcc _ => none
  | .tBmi _ => none
  | .tBpl _ => none
  | .tBvs _ => none
  | .tBvc _ => none
  | .tBhi _ => none
  | .tBls _ => none
  | .tBge _ => none
  | .tBlt _ => none
  | .tBgt _ => none
  | .tBle _ => none
  | .tUndefCond _ => none
  | .tSwi _ => none
  | .tB _ => none
  | .tBlHigh _ => none
  | .tBlLow _ => none
  | .tUndefB1 _ => none
  | .tUndefB2 _ => none
  | .tUndefB6 _ => none
  | .tUndefB8 _ => none
  | .tUndefBe _ => none
  | .tUndefE8 _ => none

end Instr

end Sys2Proof
end

