-- ==== Sys2Proof/Machine/State.lean ====
section
/-! DEFINITION. The state of the machine as plain data: every register and status bit of 10_state.md, the debug state of
61_debug.md, memory, the prefetch queue, the pins and the environment; the faults and refusals; the state after reset. -/

namespace Sys2Proof.Machine

/-- The thirty physical general registers but R15 (10 R23). -/
inductive PReg where
  | r0 | r1 | r2 | r3 | r4 | r5 | r6 | r7
  | r8 | r9 | r10 | r11 | r12 | r13 | r14
  | r8Fiq | r9Fiq | r10Fiq | r11Fiq | r12Fiq | r13Fiq | r14Fiq
  | r13Irq | r14Irq | r13Svc | r14Svc | r13Abt | r14Abt | r13Und | r14Und
  deriving DecidableEq, Repr

/-- The place of a physical register in the register file. -/
def PReg.index : PReg → Fin 30
  | .r0 => 0 | .r1 => 1 | .r2 => 2 | .r3 => 3 | .r4 => 4 | .r5 => 5 | .r6 => 6 | .r7 => 7
  | .r8 => 8 | .r9 => 9 | .r10 => 10 | .r11 => 11 | .r12 => 12 | .r13 => 13 | .r14 => 14
  | .r8Fiq => 15 | .r9Fiq => 16 | .r10Fiq => 17 | .r11Fiq => 18 | .r12Fiq => 19 | .r13Fiq => 20 | .r14Fiq => 21
  | .r13Irq => 22 | .r14Irq => 23 | .r13Svc => 24 | .r14Svc => 25 | .r13Abt => 26 | .r14Abt => 27
  | .r13Und => 28 | .r14Und => 29

/-- The twelve defined bits of a program status register (10 R34, R40). -/
structure Psr where
  /-- Bit 31, negative. -/
  n : Bool
  /-- Bit 30, zero. -/
  z : Bool
  /-- Bit 29, carry. -/
  c : Bool
  /-- Bit 28, overflow. -/
  v : Bool
  /-- Bit 7, IRQ disable. -/
  i : Bool
  /-- Bit 6, FIQ disable. -/
  f : Bool
  /-- Bit 5, THUMB state. -/
  t : Bool
  /-- Bits 4:0, the mode. -/
  m : BitVec 5
  deriving DecidableEq, Repr

/-- The five saved program status registers (10 R36). -/
structure Spsrs where
  fiq : Psr
  irq : Psr
  svc : Psr
  abt : Psr
  und : Psr
  deriving DecidableEq, Repr

/-- The size of a memory access, as MAS[1:0] signals it (20 R65). -/
inductive Size where
  | byte | half | word
  deriving DecidableEq, Repr

/-- One memory cycle on the bus: all that the core tells the memory system with the access (20 R84), the other output pins
that an abort predicate may look at (10 R42, 61 R488), and what the memory system answers. -/
structure BusCycle where
  addr : Word
  size : Size
  /-- nRW. -/
  write : Bool
  /-- nOPC LOW. -/
  fetch : Bool
  /-- nTRANS HIGH. -/
  priv : Bool
  /-- LOCK. -/
  lock : Bool
  /-- The cycle type: sequential (S), not non-sequential (N) (20 R92). -/
  seq : Bool
  /-- nM[4:0] (10 R42). -/
  nM : BitVec 5
  /-- TBIT (10 R42). -/
  tbit : Bool
  /-- The external DBGACK (61 R488). -/
  dbgack : Bool
  /-- The value on D[31:0]. -/
  data : Word
  /-- The memory system drove ABORT. -/
  aborted : Bool
  /-- The system drove BREAKPT (61 R471). -/
  breakpt : Bool
  /-- Its place among the memory cycles of its step (model's own). -/
  place : Nat
  deriving DecidableEq, Repr

/-- An instruction in the pipeline as its fetch left it, with the two hidden marks (10 R45, R46; 61 R472). -/
structure Slot where
  /-- The opcode, which nothing uses where the fetch was aborted (60 R446). -/
  opcode : Word
  /-- The fetch was aborted: the prefetch-abort mark. -/
  aborted : Bool
  /-- The fetch was breakpointed. -/
  breakpoint : Bool
  deriving DecidableEq, Repr

/-- A region of accesses that the memory system aborts (00 R8): the addresses `first` to `last`, restricted to the sizes,
directions, kinds and privileges that are marked. A list of regions gives any abort predicate. -/
structure AbortRegion where
  first : Nat
  last : Nat
  onByte : Bool
  onHalf : Bool
  onWord : Bool
  onRead : Bool
  onWrite : Bool
  onFetch : Bool
  onData : Bool
  onUser : Bool
  onPriv : Bool
  deriving DecidableEq, Repr

/-- The pins that are constant during a run, and the parameters of 00 R7 to R11. -/
structure Pins where
  bigend : Bool
  dbgen : Bool
  isync : Bool
  /-- Bit `n`: an external coprocessor `n` is attached (00 R9). -/
  coprocPresent : BitVec 16
  abortMap : List AbortRegion
  deriving DecidableEq, Repr

/-- A coprocessor's answer to an offered instruction (46 R295). -/
inductive CopReply where
  | absent
  | busy
  /-- The words it supplies (MRC, STC), or as many words as it takes (LDC): at least one (46 R302). -/
  | ready (first : Word) (rest : List Word)
  deriving DecidableEq, Repr

/-- What the debugger does on the TAP in one step (61 R479, R493, R495, R502). -/
inductive DebugCmd where
  | idle
  /-- Load the TAP instruction register. -/
  | loadIr (ir : BitVec 4)
  /-- Select a scan chain, with SCAN_N in the instruction register. -/
  | selectChain (n : BitVec 4)
  /-- Read an ICEBreaker register through scan chain 2. -/
  | iceRead (addr : BitVec 5)
  /-- Write an ICEBreaker register through scan chain 2. -/
  | iceWrite (addr : BitVec 5) (data : Word)
  /-- Scan an instruction, with bit 33, into scan chain 1 and clock it; then the data its loads take. -/
  | scan (bit33 : Bool) (word : Word) (data : List Word)
  /-- Enter RUN-TEST/IDLE. -/
  | runTestIdle
  /-- Capture and shift the data register that IDCODE, BYPASS or RESTART selects; `last` is the last bit shifted in. -/
  | scanDr (last : Bool)
  deriving DecidableEq, Repr

/-- The inputs of one step (00 R12). A pin is `true` when it is HIGH. -/
structure Inputs where
  nRESET : Bool
  nFIQ : Bool
  nIRQ : Bool
  nTRST : Bool
  dbgrq : Bool
  /-- BREAKPT in each memory cycle of this step, in their order; LOW in the cycles past the list (61 R471). -/
  breakpt : List Bool
  extern0 : Bool
  extern1 : Bool
  /-- nFIQ and nIRQ at the end of this step's instruction, which only a watchpoint looks at (61 R473, R476). -/
  nFIQEnd : Bool
  nIRQEnd : Bool
  /-- Bytes that other bus masters wrote before this step. -/
  memWrites : List Host.Cell
  /-- A change of the abort predicate (D2: it may depend on time). -/
  newAbortMap : Option (List AbortRegion)
  cop : CopReply
  dbg : DebugCmd
  deriving DecidableEq, Repr

/-- Every input inactive: the default of every step that the environment says nothing of (92, open parameters). -/
def Inputs.inactive : Inputs where
  nRESET := true
  nFIQ := true
  nIRQ := true
  nTRST := true
  dbgrq := false
  breakpt := []
  extern0 := false
  extern1 := false
  nFIQEnd := true
  nIRQEnd := true
  memWrites := []
  newAbortMap := none
  cop := .absent
  dbg := .idle

/-- The registers of one ICEBreaker watchpoint unit (61 R480 to R482). -/
structure Watchpoint where
  addrValue : Word
  addrMask : Word
  dataValue : Word
  dataMask : Word
  ctrlValue : BitVec 9
  ctrlMask : BitVec 8
  deriving DecidableEq, Repr

/-- The debug state of the macrocell (10 R49). -/
structure Debug where
  /-- The core is in debug state (its DBGACK, 61 R475). -/
  active : Bool
  /-- A system-speed access is under way: the core has dropped out of debug state for one instruction (61 R493). -/
  systemSpeed : Bool
  /-- Bit 33 as captured: LOW for a breakpoint, HIGH for a watchpoint or after a system-speed access (61 R493). -/
  captured33 : Bool
  /-- Bit 33 of the scan before this one. -/
  scanned33 : Bool
  /-- The instruction scanned after a scan with bit 33 HIGH, waiting for BYPASS or RESTART. -/
  pending : Option Word
  /-- The data scanned in with that instruction. -/
  pendingData : List Word
  /-- Instructions executed since debug entry. -/
  executed : Nat
  /-- Scans that only refill the pipeline after a write of the PC in debug state (61 R494, R475). -/
  refill : Nat
  /-- Debug control bit 2 (61 R488). -/
  intdis : Bool
  /-- Debug control bit 1. -/
  dbgrq : Bool
  /-- Debug control bit 0. -/
  dbgack : Bool
  /-- The synchronisation latch of debug control bit 1. -/
  dbgrqLatch : Bool
  wp0 : Watchpoint
  wp1 : Watchpoint
  /-- The CHAINOUT latch of watchpoint 1 (61 R484). -/
  chainOut : Bool
  /-- The RANGEOUT0 pin in the memory cycle that ICEBreaker compared last (61 R483). -/
  rangeOut0 : Bool
  /-- The RANGEOUT1 pin in that cycle. -/
  rangeOut1 : Bool
  /-- Comms data read register (61 R497). -/
  commsRead : Word
  /-- Comms data write register. -/
  commsWrite : Word
  /-- Comms control bit 0, R. -/
  commsR : Bool
  /-- Comms control bit 1, W. -/
  commsW : Bool
  /-- The TAP instruction register (61 R502). -/
  tapIr : BitVec 4
  /-- The scan chain select register. -/
  scanSelect : BitVec 4
  /-- The bypass register. -/
  bypass : Bool
  /-- Data scanned in for the loads of the instruction under way. -/
  scanIn : List Word
  /-- Data bus values that the stores of this step put out, oldest first. -/
  scanOut : List Word
  /-- The value an ICEBreaker read of this step gave. -/
  iceOut : Option Word
  /-- What the TAP instruction, scan path select, identification or bypass register captured and shifted out in this step. -/
  tapOut : Option Word
  deriving DecidableEq, Repr

/-- What a coprocessor instruction of this step said to the coprocessor (46 R299, R302, R303, R306, R307). -/
inductive CpEvent where
  | operation (cp opc crn crd : BitVec 4) (info : BitVec 3) (crm : BitVec 4)
  | load (cp crd : BitVec 4) (n : Bool) (words : List Word)
  | store (cp crd : BitVec 4) (n : Bool) (words : List Word)
  | toCoprocessor (cp : BitVec 4) (opc : BitVec 3) (crn : BitVec 4) (info : BitVec 3) (crm : BitVec 4) (word : Word)
  | fromCoprocessor (cp : BitVec 4) (opc : BitVec 3) (crn : BitVec 4) (info : BitVec 3) (crm : BitVec 4) (word : Word)
  deriving DecidableEq, Repr

/-- The state of the machine. -/
structure State where
  /-- The general registers but R15, by `PReg.index` (10 R23). -/
  regs : Vector Word 30
  /-- R15 as the address of the instruction about to execute (10 R31). -/
  pc : Word
  cpsr : Psr
  spsrs : Spsrs
  /-- Memory: the bytes that are not 0, by rising address (20 R60). -/
  mem : List Host.Cell
  /-- The instructions already fetched, the head for the one at `pc` (10 R45, R46, 20 R88). -/
  pipe : List Slot
  pins : Pins
  /-- The inputs of the steps to come, one record a step. -/
  env : List Inputs
  /-- The inputs of this step. -/
  inp : Inputs
  dbg : Debug
  /-- The memory cycles of this step, oldest first (model's own). -/
  bus : List BusCycle
  /-- The coprocessor events of this step (model's own). -/
  cpLog : List CpEvent
  /-- The next instruction to complete directly follows a user-bank LDM (70 R532). -/
  hazard : Bool
  /-- The last cycle before the next fetch is a data access or the C-cycle of an MCR with no internal cycle after it, so that
  this fetch is non-sequential (20 R92, 70 R545, 90 C14). -/
  nonSeq : Bool
  /-- Steps for which nRESET has been LOW (70 R520). -/
  resetCycles : Nat
  /-- The argument of the free values, advanced by every step (model's own). -/
  freeCtr : Nat
  deriving DecidableEq, Repr

/-- Why the machine stops with a fault: 93_implementation_defined.md treats these as `fault`. Each is safe: the model stops
where the source defines nothing. -/
inductive Fault where
  /-- A write of the CPSR control bits changes T: "an unpredictable state" (10 R37, U1). Raised by MSR and by the P forms
  of the tests. Safe. -/
  | stateBitChanged
  /-- The SPSR of User or System mode (10 R36, U6). Raised by MRS, MSR, data processing and LDM. Safe. -/
  | noSpsr
  /-- A halfword store to an odd address (20 R73, U11). Raised by STRH. Safe. -/
  | oddHalfwordStore
  /-- LDM or STM with the S bit in User mode (45 R272, U33). Safe. -/
  | userBankInUserMode
  /-- THUMB BX PC at an address that is not word aligned (47 R352, U42). Safe. -/
  | bxPcMisaligned
  deriving DecidableEq, Repr

/-- Why the machine refuses to go on: 93_implementation_defined.md treats these as `refuse`. Each is safe: the model stops
where the source defines nothing. -/
inductive Refusal where
  /-- An arm of `exec` without a meaning: none in this model. Raised by `exec`. Safe. -/
  | notModelled (mnemonic : String)
  /-- Condition field 1111 (30 R105, U4). Raised by `step`. Safe. -/
  | reservedCondition
  /-- An unallocated ARM word (30 R112, U5). Raised by `step`. Safe. -/
  | unallocated
  /-- A signed store, S = 1 and L = 0 (44 R258, U30). Raised by `step`. Safe. -/
  | signedStore
  /-- ARM BX with Rn = R15 (40 R160, U20). Safe. -/
  | bxR15
  /-- A register-specified shift with Rs = R15 (41 R173, U21). Safe. -/
  | shiftAmountR15
  /-- MRS or MSR with R15 (42 R211, U23). Safe. -/
  | psrTransferR15
  /-- A multiply with R15 (43 R224, R233, U26). Safe. -/
  | multiplyR15
  /-- A transfer with Rn = R15 and write-back (44 R244, R259, U28). Safe. -/
  | baseR15WriteBack
  /-- A transfer with Rm = R15 (44 R237, R259, U29). Safe. -/
  | offsetR15
  /-- A halfword transfer with P = 0 and W = 1 (44 R253, U31). Safe. -/
  | halfwordPostW
  /-- An empty register list (45 R266, 48 R393, U32). Safe. -/
  | emptyList
  /-- A user-bank LDM or STM with write-back (45 R272, U34). Safe. -/
  | userBankWriteBack
  /-- LDM or STM with Rn = R15 (45 R274, U35). Safe. -/
  | blockBaseR15
  /-- SWP with R15 (45 R287, U36). Safe. -/
  | swapR15
  /-- LDC or STC with Rn = R15 and write-back (46 R304, U37). Safe. -/
  | coprocBaseR15
  /-- Format 5 ADD, CMP or MOV with H1 = H2 = 0 (47 R353, U40). Safe. -/
  | hiRegisterLoLo
  /-- THUMB BX with H1 = 1 (47 R353, U41). Safe. -/
  | thumbBxH1
  /-- nRESET LOW for fewer than two steps, or in debug state (70 R521, R522, U51). Raised by `step`. Safe. -/
  | resetContract
  /-- A scan command out of its protocol: a chain reserved or not listed (log 75), a chain or TAP instruction not selected, a
  command that needs debug state (61 R478, R479, R493, R495, C24). Raised by `step`. Safe. -/
  | debugProtocol
  /-- An instruction that may not be scanned into the pipeline in debug state (61 R493). Raised by `step`. Safe. -/
  | debugInstruction
  deriving DecidableEq, Repr

/-- The outcome of an instruction or of a step. -/
abbrev Result := Host.Outcome State Fault Refusal

/-- User mode (10 R39). -/
abbrev modeUsr : BitVec 5 := 0b10000#5
/-- FIQ mode. -/
abbrev modeFiq : BitVec 5 := 0b10001#5
/-- IRQ mode. -/
abbrev modeIrq : BitVec 5 := 0b10010#5
/-- Supervisor mode. -/
abbrev modeSvc : BitVec 5 := 0b10011#5
/-- Abort mode. -/
abbrev modeAbt : BitVec 5 := 0b10111#5
/-- Undefined mode. -/
abbrev modeUnd : BitVec 5 := 0b11011#5
/-- System mode. -/
abbrev modeSys : BitVec 5 := 0b11111#5

/-- A status register with every bit 0: the model's value where the spec gives none. DESIGN CHOICE, log 1. -/
def Psr.zero : Psr := ⟨false, false, false, false, false, false, false, 0#5⟩

/-- The watchpoint registers with every bit 0. DESIGN CHOICE, log 8. -/
def Watchpoint.zero : Watchpoint := ⟨0, 0, 0, 0, 0, 0⟩

/-- The debug state after reset: not in debug state; after nTRST the TAP holds IDCODE and scan chain 3 (61 R502, R503); the
registers to which the spec gives no value are 0 (DESIGN CHOICE, log 8). -/
def Debug.reset : Debug where
  active := false
  systemSpeed := false
  captured33 := false
  scanned33 := false
  pending := none
  pendingData := []
  executed := 0
  refill := 0
  intdis := false
  dbgrq := false
  dbgack := false
  dbgrqLatch := false
  wp0 := Watchpoint.zero
  wp1 := Watchpoint.zero
  chainOut := false
  rangeOut0 := false
  rangeOut1 := false
  commsRead := 0
  commsWrite := 0
  commsR := false
  commsW := false
  tapIr := 0b1110#4
  scanSelect := 3#4
  bypass := false
  scanIn := []
  scanOut := []
  iceOut := none
  tapOut := none

/-- The machine right after reset (10 R50): PC 0, Supervisor mode, I and F set, ARM state, the pipeline empty; the values
that the spec does not give are 0 or inactive (DESIGN CHOICE, logs 1, 2, 5, 7, 8). -/
def State.reset : State where
  regs := Vector.replicate 30 0
  pc := 0
  cpsr := ⟨false, false, false, false, true, true, false, modeSvc⟩
  spsrs := ⟨Psr.zero, Psr.zero, Psr.zero, Psr.zero, Psr.zero⟩
  mem := []
  pipe := []
  pins := ⟨false, false, false, 0, []⟩
  env := []
  inp := Inputs.inactive
  dbg := Debug.reset
  bus := []
  cpLog := []
  hazard := false
  nonSeq := false
  resetCycles := 0
  freeCtr := 0

end Sys2Proof.Machine
end

