-- ==== Sys2Proof/Machine/Ops.lean ====
section
/-! DEFINITION. The shared operations: status register words, modes, register banks, memory, data accesses, the program
counter, taking an exception and returning from one. -/

namespace Sys2Proof.Machine

/-! ### Program status registers -/

/-- The 32-bit word of a status register, with `reserved` in bits 27:8 (10 R34, R40). -/
def Psr.toWord (p : Psr) (reserved : BitVec 20) : Word :=
  BitVec.ofBool p.n ++ (BitVec.ofBool p.z ++ (BitVec.ofBool p.c ++ (BitVec.ofBool p.v ++ (reserved ++
    (BitVec.ofBool p.i ++ (BitVec.ofBool p.f ++ (BitVec.ofBool p.t ++ p.m)))))))

/-- The flags of a status register replaced by bits 31:28 of a word (42 R213). -/
def Psr.withFlags (p : Psr) (w : Word) : Psr :=
  { p with n := w.getLsbD 31, z := w.getLsbD 30, c := w.getLsbD 29, v := w.getLsbD 28 }

/-- A status register with all twelve defined bits from a word (42 R212); bits 27:8 are not stored (10 R40, D10). -/
def Psr.ofWord (w : Word) : Psr where
  n := w.getLsbD 31
  z := w.getLsbD 30
  c := w.getLsbD 29
  v := w.getLsbD 28
  i := w.getLsbD 7
  f := w.getLsbD 6
  t := w.getLsbD 5
  m := w.extractLsb' 0 5

/-- The seven legal values of M[4:0] (10 R39). -/
def legalMode (m : BitVec 5) : Bool :=
  m == modeUsr || m == modeFiq || m == modeIrq || m == modeSvc || m == modeAbt || m == modeUnd || m == modeSys

/-- A privileged mode: any but User (10 R22). -/
def State.privileged (s : State) : Bool := s.cpsr.m != modeUsr

/-- The SPSR of the current mode; User and System mode have none (10 R36). -/
def State.spsr (s : State) : Option Psr :=
  if s.cpsr.m = modeFiq then some s.spsrs.fiq
  else if s.cpsr.m = modeIrq then some s.spsrs.irq
  else if s.cpsr.m = modeSvc then some s.spsrs.svc
  else if s.cpsr.m = modeAbt then some s.spsrs.abt
  else if s.cpsr.m = modeUnd then some s.spsrs.und
  else none

/-- The saved status registers with the one of mode `m` replaced (10 R36); no change for a mode without one. -/
def Spsrs.set (q : Spsrs) (m : BitVec 5) (p : Psr) : Spsrs :=
  if m = modeFiq then { q with fiq := p }
  else if m = modeIrq then { q with irq := p }
  else if m = modeSvc then { q with svc := p }
  else if m = modeAbt then { q with abt := p }
  else if m = modeUnd then { q with und := p }
  else q

/-! ### General registers -/

/-- The stack pointer of a mode (10 R24). -/
def spOf (m : BitVec 5) : PReg :=
  if m = modeFiq then .r13Fiq else if m = modeIrq then .r13Irq else if m = modeSvc then .r13Svc
  else if m = modeAbt then .r13Abt else if m = modeUnd then .r13Und else .r13

/-- The link register of a mode (10 R24). -/
def lrOf (m : BitVec 5) : PReg :=
  if m = modeFiq then .r14Fiq else if m = modeIrq then .r14Irq else if m = modeSvc then .r14Svc
  else if m = modeAbt then .r14Abt else if m = modeUnd then .r14Und else .r14

/-- The physical register that a number 0 to 14 selects in mode `m`: the table of 10 R24. R15 is not in the file: its
readers and writers test for it first, and the last line is never used for it. -/
def physReg (m : BitVec 5) (r : Reg) : PReg :=
  match r.toNat with
  | 0 => .r0 | 1 => .r1 | 2 => .r2 | 3 => .r3 | 4 => .r4 | 5 => .r5 | 6 => .r6 | 7 => .r7
  | 8 => if m = modeFiq then .r8Fiq else .r8
  | 9 => if m = modeFiq then .r9Fiq else .r9
  | 10 => if m = modeFiq then .r10Fiq else .r10
  | 11 => if m = modeFiq then .r11Fiq else .r11
  | 12 => if m = modeFiq then .r12Fiq else .r12
  | 13 => spOf m
  | _ => lrOf m

/-- The register number is banked in mode `m`: R13 and R14 outside User and System mode, R8 to R12 in FIQ mode (70 R532). -/
def bankedIn (m : BitVec 5) (r : Reg) : Bool := physReg m r != physReg modeUsr r

/-- The contents of a physical register. -/
def State.getReg (s : State) (p : PReg) : Word := s.regs.get p.index

/-- A physical register written. -/
def State.setReg (s : State) (p : PReg) (v : Word) : State :=
  { s with regs := s.regs.set p.index v }

/-- A register number 0 to 14 read in the bank of mode `m`; a banked one reads a free value directly after a user-bank LDM
(70 R532, U43). -/
def State.readBank (s : State) (m : BitVec 5) (r : Reg) : Word :=
  if s.hazard && bankedIn s.cpsr.m r then Config.bankedRead s.freeCtr r else s.getReg (physReg m r)

/-- `R[r]` of 00 R14, with R15 reading `pcAhead` bytes ahead of the instruction (10 R31). -/
def State.readReg (s : State) (r : Reg) (pcAhead : Word) : Word :=
  if r = 15#4 then s.pc + pcAhead else s.readBank s.cpsr.m r

/-- `R[r]` as an ordinary operand: R15 is 8 bytes ahead in ARM state and 4 in THUMB state (10 R31). -/
def State.operand (s : State) (r : Reg) : Word := s.readReg r (if s.cpsr.t then 4#32 else 8#32)

/-- `R[r]` where R15 is 12 bytes ahead (10 R31). -/
def State.operandFar (s : State) (r : Reg) : Word := s.readReg r 12#32

/-- `R_usr[r]`, for r other than 15 (45 R272). -/
def State.readUser (s : State) (r : Reg) : Word := s.readBank modeUsr r

/-- A register number 0 to 14 of the current bank written. -/
def State.writeReg (s : State) (r : Reg) (v : Word) : State := s.setReg (physReg s.cpsr.m r) v

/-- `R_usr[r] <- v`, for r other than 15. -/
def State.writeUser (s : State) (r : Reg) (v : Word) : State := s.setReg (physReg modeUsr r) v

/-! ### The program counter -/

/-- The bytes of one instruction in the current state (10 R33). -/
def State.instrBytes (s : State) : Word := if s.cpsr.t then 2#32 else 4#32

/-- A value as the PC holds it: bits 1:0 zero in ARM state, bit 0 zero in THUMB state (10 R32, D9). -/
def alignPc (t : Bool) (v : Word) : Word := if t then v &&& 0xFFFFFFFE#32 else v &&& 0xFFFFFFFC#32

/-- The instruction is complete and did not write the PC: the next one follows (10 R33). -/
def State.advance (s : State) : State :=
  { s with pc := s.pc + s.instrBytes, pipe := s.pipe.tail, hazard := false }

/-- `pc <- v`: aligned for the state after the write; the pipeline is emptied (10 R32, R45). The instruction is complete. -/
def State.branch (s : State) (v : Word) : State :=
  { s with pc := alignPc s.cpsr.t v, pipe := [], hazard := false }

/-- A result written to Rd and the instruction completed; Rd = R15 is a branch (00 R14). -/
def State.finish (s : State) (rd : Reg) (v : Word) : State :=
  if rd = 15#4 then s.branch v else (s.writeReg rd v).advance

/-! ### Memory -/

/-- What an address that the memory lists nothing at reads as. DESIGN CHOICE (unsafe), log 5. -/
def unlistedByte : Byte := 0#8

/-- The byte at an address. -/
def Memory.get : List Host.Cell → Nat → Byte
  | [], _ => unlistedByte
  | (b, w) :: rest, a => if a = b then w else Memory.get rest a

/-- A byte written, the list kept in its one form. -/
def Memory.set : List Host.Cell → Nat → Byte → List Host.Cell
  | [], a, v => if v = unlistedByte then [] else [(a, v)]
  | (b, w) :: rest, a, v =>
    if a < b then (if v = unlistedByte then (b, w) :: rest else (a, v) :: (b, w) :: rest)
    else if a = b then (if v = unlistedByte then rest else (a, v) :: rest)
    else (b, w) :: Memory.set rest a v

/-- Addresses strictly rising from `low`, below 2^32, and no entry equal to what an unlisted address reads as. -/
def Memory.wfFrom : Nat → List Host.Cell → Bool
  | _, [] => true
  | low, (a, v) :: rest => low ≤ a && a < 4294967296 && v != unlistedByte && Memory.wfFrom (a + 1) rest

/-- The one form of a memory (20 R60). -/
def Memory.wf (m : List Host.Cell) : Bool := Memory.wfFrom 0 m

/-- The byte at a byte address (20 R60). -/
def Memory.byteAt (m : List Host.Cell) (a : Word) : Byte := Memory.get m a.toNat

/-- HW(a) of 20 R63, for the halfword that contains `a`. -/
def Memory.halfAt (big : Bool) (m : List Host.Cell) (a : Word) : Half :=
  let h := a &&& 0xFFFFFFFE#32
  if big then Memory.byteAt m h ++ Memory.byteAt m (h + 1#32)
  else Memory.byteAt m (h + 1#32) ++ Memory.byteAt m h

/-- W(a) of 20 R63, for the word that contains `a`. -/
def Memory.wordAt (big : Bool) (m : List Host.Cell) (a : Word) : Word :=
  let b := a &&& 0xFFFFFFFC#32
  if big then
    Memory.byteAt m b ++ (Memory.byteAt m (b + 1#32) ++ (Memory.byteAt m (b + 2#32) ++ Memory.byteAt m (b + 3#32)))
  else
    Memory.byteAt m (b + 3#32) ++ (Memory.byteAt m (b + 2#32) ++ (Memory.byteAt m (b + 1#32) ++ Memory.byteAt m b))

/-- A byte stored (20 R72). -/
def Memory.putByte (m : List Host.Cell) (a : Word) (v : Byte) : List Host.Cell := Memory.set m a.toNat v

/-- The halfword that contains `a` set to `v` (20 R73). -/
def Memory.putHalf (big : Bool) (m : List Host.Cell) (a : Word) (v : Half) : List Host.Cell :=
  let h := a &&& 0xFFFFFFFE#32
  if big then Memory.putByte (Memory.putByte m h (v.extractLsb' 8 8)) (h + 1#32) (v.extractLsb' 0 8)
  else Memory.putByte (Memory.putByte m h (v.extractLsb' 0 8)) (h + 1#32) (v.extractLsb' 8 8)

/-- The word that contains `a` set to `v` (20 R71). -/
def Memory.putWord (big : Bool) (m : List Host.Cell) (a : Word) (v : Word) : List Host.Cell :=
  let b := a &&& 0xFFFFFFFC#32
  if big then
    Memory.putByte (Memory.putByte (Memory.putByte (Memory.putByte m b (v.extractLsb' 24 8)) (b + 1#32)
      (v.extractLsb' 16 8)) (b + 2#32) (v.extractLsb' 8 8)) (b + 3#32) (v.extractLsb' 0 8)
  else
    Memory.putByte (Memory.putByte (Memory.putByte (Memory.putByte m b (v.extractLsb' 0 8)) (b + 1#32)
      (v.extractLsb' 8 8)) (b + 2#32) (v.extractLsb' 16 8)) (b + 3#32) (v.extractLsb' 24 8)

/-! ### The abort predicate -/

/-- The region covers an access (00 R8). -/
def AbortRegion.covers (g : AbortRegion) (addr : Word) (size : Size) (write fetch priv : Bool) : Bool :=
  g.first ≤ addr.toNat && addr.toNat ≤ g.last &&
  (match size with
    | .byte => g.onByte
    | .half => g.onHalf
    | .word => g.onWord) &&
  (if write then g.onWrite else g.onRead) && (if fetch then g.onFetch else g.onData) &&
  (if priv then g.onPriv else g.onUser)

/-- `Abort(addr, size, is_write, is_fetch, privileged)` of 00 R8. -/
def State.aborts (s : State) (addr : Word) (size : Size) (write fetch priv : Bool) : Bool :=
  s.pins.abortMap.any fun g => g.covers addr size write fetch priv

/-! ### Data accesses -/

/-- In debug state, outside a system-speed access, the core is isolated from the memory system (61 R475). -/
def State.isolated (s : State) : Bool := s.dbg.active && !s.dbg.systemSpeed

/-- nM[4:0]: the inverses of the mode bits (10 R42). -/
def State.nM (s : State) : BitVec 5 := ~~~s.cpsr.m

/-- TBIT (10 R42). -/
def State.tbit (s : State) : Bool := s.cpsr.t

/-- The external DBGACK (61 R488): the core's, LOW during a system-speed access, ORed with debug control bit 0; forced LOW
with DBGEN LOW (R491). -/
def State.dbgackPin (s : State) : Bool := s.pins.dbgen && (s.isolated || s.dbg.dbgack)

/-- A memory cycle as the pins show it (20 R84, 10 R42, 61 R488). D[31:0] of a read that aborts is free (log 65). -/
def State.busCycle (s : State) (addr : Word) (size : Size) (write fetch priv lock seq : Bool) (data : Word)
    (aborted : Bool) : BusCycle where
  addr := addr
  size := size
  write := write
  fetch := fetch
  priv := priv
  lock := lock
  seq := seq
  nM := s.nM
  tbit := s.tbit
  dbgack := s.dbgackPin
  data := if aborted && !write then Config.abortedData s.freeCtr s.bus.length else data
  aborted := aborted
  breakpt := s.inp.breakpt.getD s.bus.length false
  place := s.bus.length

/-- A data access of this direction follows one of the same direction: the next transfer of a block, which is sequential; any
other data access is not (20 R92, 70 R545: LDM nS + 1N, STM (n-1)S + 2N, SWP 2N). -/
def State.continuesBlock (s : State) (write : Bool) : Bool :=
  match s.bus.getLast? with
  | some c => !c.fetch && c.write == write
  | none => false

/-- The memory cycle of a data access (20 R83, R84). -/
def State.dataCycle (s : State) (addr : Word) (size : Size) (write priv lock : Bool) (data : Word) : BusCycle :=
  s.busCycle addr size write false priv lock (s.continuesBlock write) data (s.aborts addr size write false priv)

/-- A memory cycle recorded. -/
def State.logCycle (s : State) (c : BusCycle) : State := { s with bus := s.bus ++ [c] }

/-- The byte lane of a 32-bit bus value that carries the addressed byte (20 R67). -/
def laneByte (big : Bool) (d addr : Word) : Byte :=
  let k := (addr &&& 3#32).toNat
  d.extractLsb' (8 * (if big then 3 - k else k)) 8

/-- The half of a 32-bit bus value that carries the addressed halfword (20 R68, R77). -/
def laneHalf (big : Bool) (d addr : Word) : Half :=
  if addr.getLsbD 1 = big then d.extractLsb' 0 16 else d.extractLsb' 16 16

/-- The value of a data read that the memory answers, zero-extended to 32 bits: the byte (20 R67), the halfword (R68) or any
value at an odd address (R70, U10), the unrotated word (R66, R74). -/
def State.memValue (s : State) (size : Size) (addr : Word) : Word :=
  match size with
  | .byte => (Memory.byteAt s.mem addr).setWidth 32
  | .half =>
    if addr.getLsbD 0 then (Config.oddHalfword s.freeCtr).setWidth 32
    else (Memory.halfAt s.pins.bigend s.mem addr).setWidth 32
  | .word => Memory.wordAt s.pins.bigend s.mem addr

/-- The same from a 32-bit value that the debugger scanned onto the data bus (61 R493). -/
def State.scanValue (s : State) (size : Size) (addr d : Word) : Word :=
  match size with
  | .byte => (laneByte s.pins.bigend d addr).setWidth 32
  | .half =>
    if addr.getLsbD 0 then (Config.oddHalfword s.freeCtr).setWidth 32 else (laneHalf s.pins.bigend d addr).setWidth 32
  | .word => d

/-- `MemRead` of 20 R66 to R70, without the rotation of R69: the value, or `none` where the access aborted; and the state
with the bus cycle recorded. In isolation the value is the one scanned in (61 R493); a missing one is free. -/
def State.dataRead (s : State) (size : Size) (addr : Word) (priv lock : Bool) : Option Word × State :=
  if s.isolated then
    (some (s.scanValue size addr (s.dbg.scanIn.headD (Config.unscannedData s.freeCtr s.dbg.scanOut.length))),
      { s with dbg := { s.dbg with scanIn := s.dbg.scanIn.tail } })
  else if s.aborts addr size false false priv then
    (none, s.logCycle (s.dataCycle addr size false priv lock (Memory.wordAt s.pins.bigend s.mem addr)))
  else
    (some (s.memValue size addr),
      s.logCycle (s.dataCycle addr size false priv lock (Memory.wordAt s.pins.bigend s.mem addr)))

/-- What a store puts on D[31:0]: a byte four times (20 R72), a halfword twice (R73), a word as it is (R71). -/
def busData (size : Size) (v : Word) : Word :=
  match size with
  | .byte => v.extractLsb' 0 8 ++ (v.extractLsb' 0 8 ++ (v.extractLsb' 0 8 ++ v.extractLsb' 0 8))
  | .half => v.extractLsb' 0 16 ++ v.extractLsb' 0 16
  | .word => v

/-- Memory after a store that is not aborted (20 R71 to R73). -/
def State.stored (s : State) (size : Size) (addr v : Word) : List Host.Cell :=
  match size with
  | .byte => Memory.putByte s.mem addr (v.extractLsb' 0 8)
  | .half => Memory.putHalf s.pins.bigend s.mem addr (v.extractLsb' 0 16)
  | .word => Memory.putWord s.pins.bigend s.mem addr v

/-- `MemWrite` of 20 R71 to R73: whether the access aborted, and the state after it; an aborted store leaves memory alone. In
isolation the data bus value goes to the scan chain and nothing reaches memory (61 R493). -/
def State.dataWrite (s : State) (size : Size) (addr v : Word) (priv lock : Bool) : Bool × State :=
  if s.isolated then
    (false, { s with dbg := { s.dbg with scanOut := s.dbg.scanOut ++ [busData size v] } })
  else if s.aborts addr size true false priv then
    (true, s.logCycle (s.dataCycle addr size true priv lock (busData size v)))
  else
    (false, { s.logCycle (s.dataCycle addr size true priv lock (busData size v)) with mem := s.stored size addr v })

/-! ### Exceptions -/

/-- The exceptions that enter through R440 (60 R430); Reset is `State.resetEntry`. -/
inductive Exc where
  | undefined | swi | prefetchAbort | dataAbort | irq | fiq
  deriving DecidableEq, Repr

/-- The mode an exception enters (60 R431). -/
def Exc.mode : Exc → BitVec 5
  | .undefined => modeUnd
  | .swi => modeSvc
  | .prefetchAbort => modeAbt
  | .dataAbort => modeAbt
  | .irq => modeIrq
  | .fiq => modeFiq

/-- The vector of an exception (60 R431). -/
def Exc.vector : Exc → Word
  | .undefined => 0x04#32
  | .swi => 0x08#32
  | .prefetchAbort => 0x0C#32
  | .dataAbort => 0x10#32
  | .irq => 0x18#32
  | .fiq => 0x1C#32

/-- Taking an exception (60 R440): R14 and the SPSR of its mode receive `link` and the old CPSR, then the mode changes, T is
cleared, I set, F set by FIQ only (R442; PRESUMED in part, decision D20, log 32), and the PC goes to the vector. -/
def State.enterException (s : State) (e : Exc) (link : Word) : State :=
  { s.setReg (lrOf e.mode) link with
    spsrs := s.spsrs.set e.mode s.cpsr
    cpsr := { s.cpsr with m := e.mode, t := false, i := true, f := s.cpsr.f || e == .fiq }
    pc := e.vector
    pipe := []
    hazard := false }

/-- The Undefined instruction trap (60 R445): the link is the next instruction (R441). -/
def State.takeUndefined (s : State) : State := s.enterException .undefined (s.pc + s.instrBytes)

/-- The software interrupt (60 R449): the link is the next instruction (R441). -/
def State.takeSwi (s : State) : State := s.enterException .swi (s.pc + s.instrBytes)

/-- The data abort (60 R447): the link is 8 past the instruction in both states (R441). -/
def State.takeDataAbort (s : State) : State := s.enterException .dataAbort (s.pc + 8#32)

/-- The prefetch abort (60 R446): the link is 4 past the instruction in both states (R441). -/
def State.takePrefetchAbort (s : State) : State := s.enterException .prefetchAbort (s.pc + 4#32)

/-- FIQ (60 R450): the link is 4 past the instruction that did not execute (R441). -/
def State.takeFiq (s : State) : State := s.enterException .fiq (s.pc + 4#32)

/-- IRQ (60 R451): the link is 4 past the instruction that did not execute (R441). -/
def State.takeIrq (s : State) : State := s.enterException .irq (s.pc + 4#32)

/-- Return from an exception (60 R452): the SPSR of the current mode becomes the CPSR, and the PC the target, aligned for the
new state. User and System mode have no SPSR (10 R36, U6). -/
def State.exceptionReturn (s : State) (target : Word) : Result :=
  match s.spsr with
  | none => .fault .noSpsr
  | some p => .next ({ s with cpsr := p }.branch target)

/-- A defined 12-bit value as a status register: N, Z, C, V, I, F, T, M from the top. -/
def Psr.ofBits (b : BitVec 12) : Psr where
  n := b.getLsbD 11
  z := b.getLsbD 10
  c := b.getLsbD 9
  v := b.getLsbD 8
  i := b.getLsbD 7
  f := b.getLsbD 6
  t := b.getLsbD 5
  m := b.extractLsb' 0 5

/-- The reset entry (70 R520), when nRESET returns HIGH: every general register, SPSR and flag holds any value (D11, U44);
Supervisor mode, I and F set, ARM state; PC 0; memory, the debug state and the pins are not touched (R522). -/
def State.resetEntry (s : State) : State :=
  { s with
    regs := Vector.ofFn fun k => Config.resetRegister s.freeCtr k.val
    spsrs :=
      ⟨Psr.ofBits (Config.resetSpsr s.freeCtr modeFiq), Psr.ofBits (Config.resetSpsr s.freeCtr modeIrq),
        Psr.ofBits (Config.resetSpsr s.freeCtr modeSvc), Psr.ofBits (Config.resetSpsr s.freeCtr modeAbt),
        Psr.ofBits (Config.resetSpsr s.freeCtr modeUnd)⟩
    cpsr :=
      { n := (Config.resetFlags s.freeCtr).getLsbD 3
        z := (Config.resetFlags s.freeCtr).getLsbD 2
        c := (Config.resetFlags s.freeCtr).getLsbD 1
        v := (Config.resetFlags s.freeCtr).getLsbD 0
        i := true
        f := true
        t := false
        m := modeSvc }
    pc := 0
    pipe := []
    hazard := false
    resetCycles := 0 }

end Sys2Proof.Machine
end

