-- ==== Sys2Proof/Machine/Flags.lean ====
section
/-! DEFINITION. The condition test and every flag computation. -/

namespace Sys2Proof.Machine

/-- `CondPassed` of 30 R104, Table 6. -/
def condPassed (c : Cond) (p : Psr) : Bool :=
  match c with
  | .eq => p.z
  | .ne => !p.z
  | .cs => p.c
  | .cc => !p.c
  | .mi => p.n
  | .pl => !p.n
  | .vs => p.v
  | .vc => !p.v
  | .hi => p.c && !p.z
  | .ls => !p.c || p.z
  | .ge => p.n == p.v
  | .lt => p.n != p.v
  | .gt => !p.z && p.n == p.v
  | .le => p.z || p.n != p.v
  | .al => true

/-- A result with its carry and overflow. -/
structure AddResult where
  value : Word
  carry : Bool
  overflow : Bool
  deriving DecidableEq, Repr

/-- `AddWithCarry` of 00 R14: the carry and the overflow are read off the exact unsigned and signed sums. -/
def addWithCarry (a b : Word) (cin : Bool) : AddResult :=
  let usum : Nat := a.toNat + b.toNat + cin.toNat
  let ssum : Int := a.toInt + b.toInt + (cin.toNat : Int)
  let r : Word := BitVec.ofNat 32 usum
  { value := r, carry := 4294967296 ≤ usum, overflow := ssum != r.toInt }

/-- The flags of a logical operation (41 R180): V unchanged. -/
def Psr.logicalFlags (p : Psr) (r : Word) (carry : Bool) : Psr :=
  { p with n := r.getLsbD 31, z := r == 0#32, c := carry }

/-- The flags of an arithmetic operation (41 R181). -/
def Psr.arithFlags (p : Psr) (r : AddResult) : Psr :=
  { p with n := r.value.getLsbD 31, z := r.value == 0#32, c := r.carry, v := r.overflow }

/-- The flags of MUL and MLA (43 R222): C takes a free value, V is unchanged. -/
def Psr.mulFlags (p : Psr) (r : Word) (carry : Bool) : Psr :=
  { p with n := r.getLsbD 31, z := r == 0#32, c := carry }

/-- The flags of the long multiplies (43 R228): C and V take free values. -/
def Psr.mulLongFlags (p : Psr) (r : BitVec 64) (carry overflow : Bool) : Psr :=
  { p with n := r.getLsbD 63, z := r == 0#64, c := carry, v := overflow }

/-- The status register replaced. -/
def State.withCpsr (s : State) (p : Psr) : State := { s with cpsr := p }

/-- An ARM instruction that fails its condition only advances the PC (00 R15, 30 R104); otherwise it does `k`. -/
def State.conditional (s : State) (c : Cond) (k : State → Result) : Result :=
  if condPassed c s.cpsr then k s else .next s.advance

end Sys2Proof.Machine
end

