-- ==== Sys2Proof/Machine/Operands.lean ====
section
/-! DEFINITION. Operand forms: the barrel shifter, operand 2, the offsets and addresses of transfers, register lists,
branch offsets. -/

namespace Sys2Proof.Machine

/-- A shifter output: the value and the shifter carry (41 R171). -/
structure Shifted where
  value : Word
  carry : Bool
  deriving DecidableEq, Repr

/-- A shift by an amount 1 to 31 (41 R172, second lines). -/
def shiftBy (ty : ShiftType) (v : Word) (n : Nat) : Shifted :=
  match ty with
  | .lsl => ⟨v <<< n, v.getLsbD (32 - n)⟩
  | .lsr => ⟨v >>> n, v.getLsbD (n - 1)⟩
  | .asr => ⟨v.sshiftRight n, v.getLsbD (n - 1)⟩
  | .ror => ⟨v.rotateRight n, v.getLsbD (n - 1)⟩

/-- All bits equal to bit 31 (41 R172, ASR #32). -/
def signFill (v : Word) : Word := if v.getLsbD 31 then 0xFFFFFFFF#32 else 0#32

/-- The instruction-specified shift (41 R172): an amount of 0 is LSL #0, LSR #32, ASR #32 and RRX. -/
def shiftImm (ty : ShiftType) (v : Word) (n : BitVec 5) (c : Bool) : Shifted :=
  if n = 0#5 then
    match ty with
    | .lsl => ⟨v, c⟩
    | .lsr => ⟨0#32, v.getLsbD 31⟩
    | .asr => ⟨signFill v, v.getLsbD 31⟩
    | .ror => ⟨BitVec.ofBool c ++ v.extractLsb' 1 31, v.getLsbD 0⟩
  else shiftBy ty v n.toNat

/-- The register-specified shift, by the low byte of Rs (41 R173): 0 changes nothing; 32 and more as the manual lists. -/
def shiftReg (ty : ShiftType) (v : Word) (amount : Byte) (c : Bool) : Shifted :=
  let n := amount.toNat
  if n = 0 then ⟨v, c⟩
  else if n < 32 then shiftBy ty v n
  else
    match ty with
    | .lsl => if n = 32 then ⟨0#32, v.getLsbD 0⟩ else ⟨0#32, false⟩
    | .lsr => if n = 32 then ⟨0#32, v.getLsbD 31⟩ else ⟨0#32, false⟩
    | .asr => ⟨signFill v, v.getLsbD 31⟩
    | .ror => if n % 32 = 0 then ⟨v, v.getLsbD 31⟩ else shiftBy .ror v (n % 32)

/-- The rotated immediate (41 R174): the carry of a rotation by 0 is the old C, else bit 31 of the value (D15). -/
def rotatedImm (rot : BitVec 4) (imm : BitVec 8) (c : Bool) : Shifted :=
  let v : Word := (imm.setWidth 32).rotateRight (2 * rot.toNat)
  ⟨v, if rot = 0#4 then c else v.getLsbD 31⟩

/-- Operand 2 of a data processing instruction (41 R171). -/
inductive Op2 where
  | imm (rot : BitVec 4) (imm : BitVec 8)
  | shift (amt : BitVec 5) (ty : ShiftType) (rm : Reg)
  | reg (rs : Reg) (ty : ShiftType) (rm : Reg)
  deriving DecidableEq, Repr

/-- The operand form is one the spec excludes: Rs = R15 (41 R173, U21). -/
def Op2.excluded : Op2 → Bool
  | .reg rs _ _ => rs == 15#4
  | _ => false

/-- The first operand: R15 is 12 bytes ahead beside a register-specified shift (41 R175). -/
def State.op1 (s : State) (rn : Reg) : Op2 → Word
  | .reg _ _ _ => s.operandFar rn
  | _ => s.operand rn

/-- Operand 2 (41 R172 to R174); R15 as Rm is 12 bytes ahead beside a register-specified shift (41 R175). -/
def State.op2 (s : State) : Op2 → Shifted
  | .imm rot imm => rotatedImm rot imm s.cpsr.c
  | .shift amt ty rm => shiftImm ty (s.operand rm) amt s.cpsr.c
  | .reg rs ty rm => shiftReg ty (s.operandFar rm) ((s.operand rs).extractLsb' 0 8) s.cpsr.c

/-- The offset of a single data transfer (44 R236, R237). -/
inductive Offset where
  | imm (off : BitVec 12)
  | reg (amt : BitVec 5) (ty : ShiftType) (rm : Reg)
  deriving DecidableEq, Repr

/-- The value of an offset; the shifter carry is discarded (44 R237). -/
def State.offset (s : State) : Offset → Word
  | .imm off => off.setWidth 32
  | .reg amt ty rm => (shiftImm ty (s.operand rm) amt s.cpsr.c).value

/-- The register an offset names, if any. -/
def Offset.rm? : Offset → Option Reg
  | .imm _ => none
  | .reg _ _ rm => some rm

/-- The offset of a halfword or signed transfer (44 R253). -/
inductive HalfOffset where
  | imm (off : BitVec 8)
  | reg (rm : Reg)
  deriving DecidableEq, Repr

/-- The value of a halfword offset (44 R253). -/
def State.halfOffset (s : State) : HalfOffset → Word
  | .imm off => off.setWidth 32
  | .reg rm => s.operand rm

/-- The register a halfword offset names, if any. -/
def HalfOffset.rm? : HalfOffset → Option Reg
  | .imm _ => none
  | .reg rm => some rm

/-- `indexed` of 44 R236 and R253: the base with the offset added or subtracted, modulo 2^32. -/
def indexed (up : Bool) (base offset : Word) : Word := if up then base + offset else base - offset

/-- The registers of a list in ascending order (45 R266). -/
def regList (list : BitVec 16) : List Reg :=
  ((List.range 16).filter fun k => list.getLsbD k).map (BitVec.ofNat 4)

/-- Four times the number of registers (45 R267). -/
def listBytes (list : BitVec 16) : Word := BitVec.ofNat 32 (4 * (regList list).length)

/-- `start` of 45 R267. -/
def blockStart (p u : Bool) (base bytes : Word) : Word :=
  match u, p with
  | true, false => base
  | true, true => base + 4#32
  | false, false => base - bytes + 4#32
  | false, true => base - bytes

/-- `final` of 45 R267. -/
def blockFinal (u : Bool) (base bytes : Word) : Word := if u then base + bytes else base - bytes

/-- The offset of an ARM branch: 24 bits, shifted left by two and sign-extended (40 R162). -/
def branchOffset (off : BitVec 24) : Word := (off ++ 0#2).signExtend 32

/-- A halfword offset of a THUMB branch: sign-extended and shifted left by one (49 R411, R414). -/
def halfwordOffset {n : Nat} (off : BitVec n) : Word := (off ++ 0#1).signExtend 32

/-- The number of a Lo register (10 R29). -/
def loReg (r : LoReg) : Reg := r.setWidth 4

/-- The number of a Hi register named by a 3-bit field with its H flag set (47 R347). -/
def hiReg (r : LoReg) : Reg := 1#1 ++ r

/-- An 8-bit register list as a 16-bit one (48 R392, R398). -/
def loList (list : BitVec 8) : BitVec 16 := list.setWidth 16

/-- The PC as THUMB Formats 6 and 12 read it: 4 ahead, bit 1 forced to 0 (10 R31, 47 R355, 48 R372). -/
def State.thumbPcBase (s : State) : Word := (s.pc + 4#32) &&& 0xFFFFFFFC#32

end Sys2Proof.Machine
end

