-- ==== Sys2Proof/Machine/Transfer.lean ====
section
/-! DEFINITION. The ARM single data transfers (44_arm_load_store.md), and the load and store that THUMB shares. -/

namespace Sys2Proof.Machine

/-- The kinds of a single load. -/
inductive LoadKind where
  | word | byte | half | signedByte | signedHalf
  deriving DecidableEq, Repr

/-- The size of the access. -/
def LoadKind.size : LoadKind → Size
  | .word => .word
  | .byte => .byte
  | .half => .half
  | .signedByte => .byte
  | .signedHalf => .half

/-- What reaches Rd of the value read at `addr`: a word rotated by a misaligned address (20 R69), a byte or halfword
zero-extended (44 R239, R254) or sign-extended (44 R256, R257). -/
def LoadKind.extend (k : LoadKind) (addr v : Word) : Word :=
  match k with
  | .word => v.rotateRight (8 * (addr &&& 3#32).toNat)
  | .byte => v
  | .half => v
  | .signedByte => (v.extractLsb' 0 8).signExtend 32
  | .signedHalf => (v.extractLsb' 0 16).signExtend 32

/-- The transfer of a load: the access, then Rd (R15: a branch, T unchanged, 44 R238); after an abort Rd is unchanged and the
data abort is taken (44 R246). -/
def State.loadInto (s : State) (k : LoadKind) (priv : Bool) (rd : Reg) (addr : Word) : Result :=
  match s.dataRead k.size addr priv false with
  | (none, t) => .next t.takeDataAbort
  | (some v, t) => .next (t.finish rd (k.extend addr v))

/-- The transfer of a store; after an abort the data abort is taken (44 R246). A halfword store to an odd address is U11
(20 R73). -/
def State.storeFrom (s : State) (size : Size) (priv : Bool) (addr v : Word) : Result :=
  if size = .half && addr.getLsbD 0 then .fault .oddHalfwordStore
  else
    match s.dataWrite size addr v priv false with
    | (true, t) => .next t.takeDataAbort
    | (false, t) => .next t.advance

/-- Base write-back, done before the access and kept by an abort (44 R236, R246). -/
def State.writeBase (s : State) (wb : Bool) (rn : Reg) (v : Word) : State := if wb then s.writeReg rn v else s

/-- The value that a store of Rd puts out: R15 is 12 ahead (44 R240); its own written-back base is the old or the updated
one, free (44 R247, U27). -/
def State.storeValue (s : State) (wb : Bool) (rn rd : Reg) (updated : Word) : Word :=
  if wb && rd = rn && Config.storesUpdatedBase s.freeCtr then updated else s.operandFar rd

/-- LDR, LDRB and their T forms (44 R236 to R239, R243, R244): `unpriv` is the T form. -/
def State.loadSingle (s : State) (k : LoadKind) (unpriv p u w : Bool) (rn rd : Reg) (o : Offset) : Result :=
  if (!p || w) && rn = 15#4 then .refused .baseR15WriteBack
  else if o.rm? = some 15#4 then .refused .offsetR15
  else
    let base := s.operand rn
    let ix := indexed u base (s.offset o)
    (s.writeBase (!p || w) rn ix).loadInto k (s.privileged && !unpriv) rd (if p then ix else base)

/-- STR, STRB and their T forms (44 R236, R237, R240, R241, R243, R244). -/
def State.storeSingle (s : State) (size : Size) (unpriv p u w : Bool) (rn rd : Reg) (o : Offset) : Result :=
  if (!p || w) && rn = 15#4 then .refused .baseR15WriteBack
  else if o.rm? = some 15#4 then .refused .offsetR15
  else
    let base := s.operand rn
    let ix := indexed u base (s.offset o)
    (s.writeBase (!p || w) rn ix).storeFrom size (s.privileged && !unpriv) (if p then ix else base)
      (s.storeValue (!p || w) rn rd ix)

/-- What the halfword forms exclude: P = 0 with W = 1 (44 R253, U31), R15 as written-back base or as offset (44 R259). -/
def halfExcluded (p w : Bool) (rn : Reg) (o : HalfOffset) : Option Refusal :=
  if !p && w then some .halfwordPostW
  else if (!p || w) && rn = 15#4 then some .baseR15WriteBack
  else if o.rm? = some 15#4 then some .offsetR15
  else none

/-- LDRH, LDRSB and LDRSH (44 R253, R254, R256, R257). -/
def State.loadHalf (s : State) (k : LoadKind) (p u w : Bool) (rn rd : Reg) (o : HalfOffset) : Result :=
  match halfExcluded p w rn o with
  | some r => .refused r
  | none =>
    let base := s.operand rn
    let ix := indexed u base (s.halfOffset o)
    (s.writeBase (!p || w) rn ix).loadInto k s.privileged rd (if p then ix else base)

/-- STRH (44 R253, R255). -/
def State.storeHalf (s : State) (p u w : Bool) (rn rd : Reg) (o : HalfOffset) : Result :=
  match halfExcluded p w rn o with
  | some r => .refused r
  | none =>
    let base := s.operand rn
    let ix := indexed u base (s.halfOffset o)
    (s.writeBase (!p || w) rn ix).storeFrom .half s.privileged (if p then ix else base)
      (s.storeValue (!p || w) rn rd ix)

/-- STR, pre-indexed, immediate offset (44 R240). -/
def execStrImmPre (c : Cond) (u w : Bool) (rn rd : Reg) (off : BitVec 12) (s : State) : Result :=
  s.conditional c fun s => s.storeSingle .word false true u w rn rd (.imm off)

/-- STR, post-indexed, immediate offset (44 R240). -/
def execStrImmPost (c : Cond) (u : Bool) (rn rd : Reg) (off : BitVec 12) (s : State) : Result :=
  s.conditional c fun s => s.storeSingle .word false false u false rn rd (.imm off)

/-- STRT, post-indexed, immediate offset (44 R243). -/
def execStrtImm (c : Cond) (u : Bool) (rn rd : Reg) (off : BitVec 12) (s : State) : Result :=
  s.conditional c fun s => s.storeSingle .word true false u true rn rd (.imm off)

/-- STR, pre-indexed, register offset (44 R240). -/
def execStrRegPre (c : Cond) (u w : Bool) (rn rd : Reg) (amt : BitVec 5) (ty : ShiftType) (rm : Reg) (s : State) : Result :=
  s.conditional c fun s => s.storeSingle .word false true u w rn rd (.reg amt ty rm)

/-- STR, post-indexed, register offset (44 R240). -/
def execStrRegPost (c : Cond) (u : Bool) (rn rd : Reg) (amt : BitVec 5) (ty : ShiftType) (rm : Reg) (s : State) : Result :=
  s.conditional c fun s => s.storeSingle .word false false u false rn rd (.reg amt ty rm)

/-- STRT, post-indexed, register offset (44 R243). -/
def execStrtReg (c : Cond) (u : Bool) (rn rd : Reg) (amt : BitVec 5) (ty : ShiftType) (rm : Reg) (s : State) : Result :=
  s.conditional c fun s => s.storeSingle .word true false u true rn rd (.reg amt ty rm)

/-- LDR, pre-indexed, immediate offset (44 R238). -/
def execLdrImmPre (c : Cond) (u w : Bool) (rn rd : Reg) (off : BitVec 12) (s : State) : Result :=
  s.conditional c fun s => s.loadSingle .word false true u w rn rd (.imm off)

/-- LDR, post-indexed, immediate offset (44 R238). -/
def execLdrImmPost (c : Cond) (u : Bool) (rn rd : Reg) (off : BitVec 12) (s : State) : Result :=
  s.conditional c fun s => s.loadSingle .word false false u false rn rd (.imm off)

/-- LDRT, post-indexed, immediate offset (44 R243). -/
def execLdrtImm (c : Cond) (u : Bool) (rn rd : Reg) (off : BitVec 12) (s : State) : Result :=
  s.conditional c fun s => s.loadSingle .word true false u true rn rd (.imm off)

/-- LDR, pre-indexed, register offset (44 R238). -/
def execLdrRegPre (c : Cond) (u w : Bool) (rn rd : Reg) (amt : BitVec 5) (ty : ShiftType) (rm : Reg) (s : State) : Result :=
  s.conditional c fun s => s.loadSingle .word false true u w rn rd (.reg amt ty rm)

/-- LDR, post-indexed, register offset (44 R238). -/
def execLdrRegPost (c : Cond) (u : Bool) (rn rd : Reg) (amt : BitVec 5) (ty : ShiftType) (rm : Reg) (s : State) : Result :=
  s.conditional c fun s => s.loadSingle .word false false u false rn rd (.reg amt ty rm)

/-- LDRT, post-indexed, register offset (44 R243). -/
def execLdrtReg (c : Cond) (u : Bool) (rn rd : Reg) (amt : BitVec 5) (ty : ShiftType) (rm : Reg) (s : State) : Result :=
  s.conditional c fun s => s.loadSingle .word true false u true rn rd (.reg amt ty rm)

/-- STRB, pre-indexed, immediate offset (44 R241). -/
def execStrbImmPre (c : Cond) (u w : Bool) (rn rd : Reg) (off : BitVec 12) (s : State) : Result :=
  s.conditional c fun s => s.storeSingle .byte false true u w rn rd (.imm off)

/-- STRB, post-indexed, immediate offset (44 R241). -/
def execStrbImmPost (c : Cond) (u : Bool) (rn rd : Reg) (off : BitVec 12) (s : State) : Result :=
  s.conditional c fun s => s.storeSingle .byte false false u false rn rd (.imm off)

/-- STRBT, post-indexed, immediate offset (44 R243). -/
def execStrbtImm (c : Cond) (u : Bool) (rn rd : Reg) (off : BitVec 12) (s : State) : Result :=
  s.conditional c fun s => s.storeSingle .byte true false u true rn rd (.imm off)

/-- STRB, pre-indexed, register offset (44 R241). -/
def execStrbRegPre (c : Cond) (u w : Bool) (rn rd : Reg) (amt : BitVec 5) (ty : ShiftType) (rm : Reg) (s : State) : Result :=
  s.conditional c fun s => s.storeSingle .byte false true u w rn rd (.reg amt ty rm)

/-- STRB, post-indexed, register offset (44 R241). -/
def execStrbRegPost (c : Cond) (u : Bool) (rn rd : Reg) (amt : BitVec 5) (ty : ShiftType) (rm : Reg) (s : State) : Result :=
  s.conditional c fun s => s.storeSingle .byte false false u false rn rd (.reg amt ty rm)

/-- STRBT, post-indexed, register offset (44 R243). -/
def execStrbtReg (c : Cond) (u : Bool) (rn rd : Reg) (amt : BitVec 5) (ty : ShiftType) (rm : Reg) (s : State) : Result :=
  s.conditional c fun s => s.storeSingle .byte true false u true rn rd (.reg amt ty rm)

/-- LDRB, pre-indexed, immediate offset (44 R239). -/
def execLdrbImmPre (c : Cond) (u w : Bool) (rn rd : Reg) (off : BitVec 12) (s : State) : Result :=
  s.conditional c fun s => s.loadSingle .byte false true u w rn rd (.imm off)

/-- LDRB, post-indexed, immediate offset (44 R239). -/
def execLdrbImmPost (c : Cond) (u : Bool) (rn rd : Reg) (off : BitVec 12) (s : State) : Result :=
  s.conditional c fun s => s.loadSingle .byte false false u false rn rd (.imm off)

/-- LDRBT, post-indexed, immediate offset (44 R243). -/
def execLdrbtImm (c : Cond) (u : Bool) (rn rd : Reg) (off : BitVec 12) (s : State) : Result :=
  s.conditional c fun s => s.loadSingle .byte true false u true rn rd (.imm off)

/-- LDRB, pre-indexed, register offset (44 R239). -/
def execLdrbRegPre (c : Cond) (u w : Bool) (rn rd : Reg) (amt : BitVec 5) (ty : ShiftType) (rm : Reg) (s : State) : Result :=
  s.conditional c fun s => s.loadSingle .byte false true u w rn rd (.reg amt ty rm)

/-- LDRB, post-indexed, register offset (44 R239). -/
def execLdrbRegPost (c : Cond) (u : Bool) (rn rd : Reg) (amt : BitVec 5) (ty : ShiftType) (rm : Reg) (s : State) : Result :=
  s.conditional c fun s => s.loadSingle .byte false false u false rn rd (.reg amt ty rm)

/-- LDRBT, post-indexed, register offset (44 R243). -/
def execLdrbtReg (c : Cond) (u : Bool) (rn rd : Reg) (amt : BitVec 5) (ty : ShiftType) (rm : Reg) (s : State) : Result :=
  s.conditional c fun s => s.loadSingle .byte true false u true rn rd (.reg amt ty rm)

/-- STRH, register offset (44 R255). -/
def execStrhReg (c : Cond) (p u w : Bool) (rn rd rm : Reg) (s : State) : Result :=
  s.conditional c fun s => s.storeHalf p u w rn rd (.reg rm)

/-- STRH, immediate offset (44 R255). -/
def execStrhImm (c : Cond) (p u w : Bool) (rn rd : Reg) (off : BitVec 8) (s : State) : Result :=
  s.conditional c fun s => s.storeHalf p u w rn rd (.imm off)

/-- LDRH, register offset (44 R254). -/
def execLdrhReg (c : Cond) (p u w : Bool) (rn rd rm : Reg) (s : State) : Result :=
  s.conditional c fun s => s.loadHalf .half p u w rn rd (.reg rm)

/-- LDRH, immediate offset (44 R254). -/
def execLdrhImm (c : Cond) (p u w : Bool) (rn rd : Reg) (off : BitVec 8) (s : State) : Result :=
  s.conditional c fun s => s.loadHalf .half p u w rn rd (.imm off)

/-- LDRSB, register offset (44 R256). -/
def execLdrsbReg (c : Cond) (p u w : Bool) (rn rd rm : Reg) (s : State) : Result :=
  s.conditional c fun s => s.loadHalf .signedByte p u w rn rd (.reg rm)

/-- LDRSB, immediate offset (44 R256). -/
def execLdrsbImm (c : Cond) (p u w : Bool) (rn rd : Reg) (off : BitVec 8) (s : State) : Result :=
  s.conditional c fun s => s.loadHalf .signedByte p u w rn rd (.imm off)

/-- LDRSH, register offset (44 R257). -/
def execLdrshReg (c : Cond) (p u w : Bool) (rn rd rm : Reg) (s : State) : Result :=
  s.conditional c fun s => s.loadHalf .signedHalf p u w rn rd (.reg rm)

/-- LDRSH, immediate offset (44 R257). -/
def execLdrshImm (c : Cond) (p u w : Bool) (rn rd : Reg) (off : BitVec 8) (s : State) : Result :=
  s.conditional c fun s => s.loadHalf .signedHalf p u w rn rd (.imm off)

end Sys2Proof.Machine
end

