-- ==== Sys2Proof/Machine/BlockTransfer.lean ====
section
/-! DEFINITION. LDM, STM, SWP and SWPB (45_arm_block_swap.md). -/

namespace Sys2Proof.Machine

/-- A load multiple under way: the state, whether a transfer has aborted, and the value loaded for R15 (45 R270). -/
structure LoadProgress where
  state : State
  aborted : Bool
  newPc : Word
  deriving DecidableEq, Repr

/-- One word of a load multiple: the access is made in any case; nothing is written once a transfer has aborted (45 R277). -/
def LoadProgress.load (q : LoadProgress) (userBank : Bool) (a : Word) (r : Reg) : LoadProgress :=
  match q.state.dataRead .word a q.state.privileged false with
  | (none, t) => { q with state := t, aborted := true }
  | (some v, t) =>
    if q.aborted then { q with state := t }
    else if r = 15#4 then { q with state := t, newPc := v }
    else { q with state := if userBank then t.writeUser r v else t.writeReg r v }

/-- The words of a load multiple, at ascending addresses (45 R268). -/
def LoadProgress.loadAll (q : LoadProgress) (userBank : Bool) : Word → List Reg → LoadProgress
  | _, [] => q
  | a, r :: rest => (q.load userBank a r).loadAll userBank (a + 4#32) rest

/-- The words of a store multiple, at ascending addresses, all of them whether or not one aborts (45 R277): whether one
aborted, and the state. -/
def State.storeAll (s : State) (aborted : Bool) : Word → List Word → Bool × State
  | _, [] => (aborted, s)
  | a, v :: rest =>
    let r := s.dataWrite .word a v s.privileged false
    r.2.storeAll (aborted || r.1) (a + 4#32) rest

/-- The value of one register of a store multiple (45 R271, R275): R15 is 12 ahead; the base, when it is not the first
register, is the written-back one. -/
def State.blockValue (s : State) (userBank : Bool) (rn : Reg) (base later : Word) (first : Bool) (r : Reg) : Word :=
  if r = 15#4 then s.pc + 12#32
  else if userBank then s.readUser r
  else if r = rn then (if first then base else later)
  else s.operand r

/-- The values of a store multiple, lowest register first. -/
def State.blockValues (s : State) (userBank : Bool) (rn : Reg) (base later : Word) : List Reg → List Word
  | [] => []
  | r :: rest => s.blockValue userBank rn base later true r :: rest.map (s.blockValue userBank rn base later false)

/-- What the block transfers exclude by encoding (45 R266, R272, R274): `userBank` is the user-bank form. -/
def blockExcluded (userBank w : Bool) (rn : Reg) (list : BitVec 16) : Option Refusal :=
  if list = 0#16 then some .emptyList
  else if rn = 15#4 then some .blockBaseR15
  else if userBank && w then some .userBankWriteBack
  else none

/-- LDM (45 R270, R272, R273, R275, R277). -/
def State.loadMultiple (s : State) (p u sf w : Bool) (rn : Reg) (list : BitVec 16) : Result :=
  let userBank := sf && !list.getLsbD 15
  match blockExcluded userBank w rn list with
  | some r => .refused r
  | none =>
    if sf && !s.privileged then .fault .userBankInUserMode
    else if sf && list.getLsbD 15 && s.spsr.isNone then .fault .noSpsr
    else
      let base := s.operand rn
      let final := blockFinal u base (listBytes list)
      let q := (LoadProgress.mk (s.writeBase w rn final) false 0#32).loadAll userBank
        (blockStart p u base (listBytes list)) (regList list)
      if q.aborted then .next (q.state.writeReg rn (if w then final else base)).takeDataAbort
      else if list.getLsbD 15 then
        if sf then q.state.exceptionReturn q.newPc else .next (q.state.branch q.newPc)
      else .next { q.state.advance with hazard := userBank }

/-- STM (45 R271, R272, R275, R277). -/
def State.storeMultiple (s : State) (p u sf w : Bool) (rn : Reg) (list : BitVec 16) : Result :=
  match blockExcluded sf w rn list with
  | some r => .refused r
  | none =>
    if sf && !s.privileged then .fault .userBankInUserMode
    else
      let base := s.operand rn
      let final := blockFinal u base (listBytes list)
      let r := s.storeAll false (blockStart p u base (listBytes list))
        (s.blockValues sf rn base (if w then final else base) (regList list))
      let t := r.2.writeBase w rn final
      .next (if r.1 then t.takeDataAbort else t.advance)

/-- SWP and SWPB (45 R285 to R288): a locked read and write. After an aborted read the bus still shows a write cycle that the
memory system discards (91 N23). -/
def State.swap (s : State) (k : LoadKind) (rn rd rm : Reg) : Result :=
  if rn = 15#4 || rd = 15#4 || rm = 15#4 then .refused .swapR15
  else
    let addr := s.operand rn
    let src := s.operand rm
    match s.dataRead k.size addr s.privileged true with
    | (none, t) =>
      .next (t.logCycle (t.dataCycle addr k.size true s.privileged true (busData k.size src))).takeDataAbort
    | (some v, t) =>
      match t.dataWrite k.size addr src s.privileged true with
      | (true, t') => .next t'.takeDataAbort
      | (false, t') => .next (t'.writeReg rd (k.extend addr v)).advance

/-- STM (45 R271). -/
def execStm (c : Cond) (p u sf w : Bool) (rn : Reg) (list : BitVec 16) (s : State) : Result :=
  s.conditional c fun s => s.storeMultiple p u sf w rn list

/-- LDM (45 R270). -/
def execLdm (c : Cond) (p u sf w : Bool) (rn : Reg) (list : BitVec 16) (s : State) : Result :=
  s.conditional c fun s => s.loadMultiple p u sf w rn list

/-- SWP (45 R285). -/
def execSwp (c : Cond) (rn rd rm : Reg) (s : State) : Result := s.conditional c fun s => s.swap .word rn rd rm

/-- SWPB (45 R286). -/
def execSwpb (c : Cond) (rn rd rm : Reg) (s : State) : Result := s.conditional c fun s => s.swap .byte rn rd rm

end Sys2Proof.Machine
end

