-- ==== Sys2Proof/Machine/Branch.lean ====
section
/-! DEFINITION. The ARM branches (40_arm_branch.md). -/

namespace Sys2Proof.Machine

/-- Branch and exchange: bit 0 of the value becomes T, and the PC receives the value, aligned for that state (40 R160). -/
def State.exchange (s : State) (v : Word) : State :=
  (s.withCpsr { s.cpsr with t := v.getLsbD 0 }).branch v

/-- BX (40 R160). -/
def execBx (c : Cond) (rn : Reg) (s : State) : Result :=
  s.conditional c fun s =>
    if rn = 15#4 then .refused .bxR15 else .next (s.exchange (s.operand rn))

/-- B (40 R162). -/
def execB (c : Cond) (off : BitVec 24) (s : State) : Result :=
  s.conditional c fun s => .next (s.branch (s.pc + 8#32 + branchOffset off))

/-- BL (40 R162). -/
def execBl (c : Cond) (off : BitVec 24) (s : State) : Result :=
  s.conditional c fun s => .next ((s.writeReg 14#4 (s.pc + 4#32)).branch (s.pc + 8#32 + branchOffset off))

end Sys2Proof.Machine
end

