-- ==== Sys2Proof/Machine/Coprocessor.lean ====
section
/-! DEFINITION. The coprocessor instructions and the debug comms channel as coprocessor 14 (46_arm_swi_coproc_undef.md, 61_debug.md). -/

namespace Sys2Proof.Machine

/-- An event recorded. -/
def State.logEvent (s : State) (e : CpEvent) : State := { s with cpLog := s.cpLog ++ [e] }

/-- The handshake with an external coprocessor (46 R295 to R297; 00 R9): number 14 is never external (D3). Absent: the
Undefined instruction trap; busy: nothing yet happens and the instruction is offered again in the next step, after the
interrupt tests; ready: `k` with the words supplied. -/
def State.offer (s : State) (cp : BitVec 4) (k : Word → List Word → Result) : Result :=
  if cp = 14#4 || !s.pins.coprocPresent.getLsbD cp.toNat then .next s.takeUndefined
  else
    match s.inp.cop with
    | .absent => .next s.takeUndefined
    | .busy => .next s
    | .ready v vs => k v vs

/-- A register transfer addressed to the debug comms channel in a form that it accepts (61 R499, D3, D22). -/
def State.commsAccepts (s : State) (cp : BitVec 4) (opc info : BitVec 3) (crm : BitVec 4) : Bool :=
  cp == 14#4 && s.pins.dbgen && opc == 0#3 && info == 0#3 && crm == 0#4

/-- The debug comms control register (61 R498): version 0001, bits 27:2 free (D22, U47), W and R. -/
def State.commsControl (s : State) : Word :=
  1#4 ++ (Config.commsReserved s.freeCtr ++ (BitVec.ofBool s.dbg.commsW ++ BitVec.ofBool s.dbg.commsR))

/-- The word of an MRC arrives: Rd, or the flags for R15 (46 R306). -/
def State.receive (s : State) (rd : Reg) (v : Word) : State :=
  (if rd = 15#4 then s.withCpsr (s.cpsr.withFlags v) else s.writeReg rd v).advance

/-- `start` and `indexed` of 46 R301. -/
def State.coprocAddress (s : State) (p u : Bool) (rn : Reg) (off : BitVec 8) : Word × Word :=
  let base := s.operand rn
  let ix := indexed u base (4#32 * off.setWidth 32)
  (if p then ix else base, ix)

/-- The words of an LDC, one for each that the coprocessor takes; the loop stops at the first abort (46 R302, D16): whether
it aborted, the words read, the state. -/
def State.coprocLoad (s : State) (got : List Word) : Word → List Word → Bool × List Word × State
  | _, [] => (false, got, s)
  | a, _ :: rest =>
    match s.dataRead .word a s.privileged false with
    | (none, t) => (true, got, t)
    | (some v, t) => t.coprocLoad (got ++ [v]) (a + 4#32) rest

/-- The words of an STC; the loop stops at the first abort (46 R303, D16). -/
def State.coprocStore (s : State) : Word → List Word → Bool × State
  | _, [] => (false, s)
  | a, v :: rest =>
    let r := s.dataWrite .word a v s.privileged false
    if r.1 then (true, r.2) else r.2.coprocStore (a + 4#32) rest

/-- The end of an MCR: the next instruction, whose fetch is non-sequential after the C-cycle (70 R545, 90 C14). -/
def State.advanceNonSeq (s : State) : State := { s.advance with nonSeq := true }

/-- CDP (46 R299). -/
def execCdp (c : Cond) (opc crn crd cp : BitVec 4) (info : BitVec 3) (crm : BitVec 4) (s : State) : Result :=
  s.conditional c fun s =>
    s.offer cp fun _ _ => .next (s.logEvent (.operation cp opc crn crd info crm)).advance

/-- STC (46 R303). -/
def execStc (c : Cond) (p u n w : Bool) (rn : Reg) (crd cp : BitVec 4) (off : BitVec 8) (s : State) : Result :=
  s.conditional c fun s =>
    if rn = 15#4 && w then .refused .coprocBaseR15
    else
      s.offer cp fun v vs =>
        let a := s.coprocAddress p u rn off
        let r := (s.writeBase w rn a.2).coprocStore a.1 (v :: vs)
        let t := r.2.logEvent (.store cp crd n (v :: vs))
        .next (if r.1 then t.takeDataAbort else t.advance)

/-- LDC (46 R302). -/
def execLdc (c : Cond) (p u n w : Bool) (rn : Reg) (crd cp : BitVec 4) (off : BitVec 8) (s : State) : Result :=
  s.conditional c fun s =>
    if rn = 15#4 && w then .refused .coprocBaseR15
    else
      s.offer cp fun v vs =>
        let a := s.coprocAddress p u rn off
        let r := (s.writeBase w rn a.2).coprocLoad [] a.1 (v :: vs)
        let t := r.2.2.logEvent (.load cp crd n r.2.1)
        .next (if r.1 then t.takeDataAbort else t.advance)

/-- MCR (46 R307). -/
def execMcr (c : Cond) (opc : BitVec 3) (crn : BitVec 4) (rd : Reg) (cp : BitVec 4) (info : BitVec 3) (crm : BitVec 4) (s : State) : Result :=
  s.conditional c fun s =>
    if s.commsAccepts cp opc info crm && crn = 1#4 then
      .next { s with dbg := { s.dbg with commsWrite := s.operandFar rd, commsW := true } }.advanceNonSeq
    else
      s.offer cp fun _ _ =>
        .next (s.logEvent (.toCoprocessor cp opc crn info crm (s.operandFar rd))).advanceNonSeq

/-- MRC (46 R306). -/
def execMrc (c : Cond) (opc : BitVec 3) (crn : BitVec 4) (rd : Reg) (cp : BitVec 4) (info : BitVec 3) (crm : BitVec 4) (s : State) : Result :=
  s.conditional c fun s =>
    if s.commsAccepts cp opc info crm && crn = 0#4 then .next (s.receive rd s.commsControl)
    else if s.commsAccepts cp opc info crm && crn = 1#4 then
      .next ({ s with dbg := { s.dbg with commsR := false } }.receive rd s.dbg.commsRead)
    else
      s.offer cp fun v _ =>
        .next ((s.logEvent (.fromCoprocessor cp opc crn info crm v)).receive rd v)

end Sys2Proof.Machine
end

