-- ==== Sys2Proof/Machine/DataProcessing.lean ====
section
/-! DEFINITION. The ARM data processing instructions (41_arm_data_processing.md). -/

namespace Sys2Proof.Machine

/-- The result of a logical operation and the status register with its flags (41 R180). -/
def logicalOut (p : Psr) (r : Word) (b : Shifted) : Word × Psr := (r, p.logicalFlags r b.carry)

/-- The result of an arithmetic operation and the status register with its flags (41 R181). -/
def arithOut (p : Psr) (r : AddResult) : Word × Psr := (r.value, p.arithFlags r)

/-- The twelve operations that write a result (41 R179, R182 to R189, R194 to R197): the result, and the status register as
S = 1 leaves it. -/
def aluOut (op : AluOp) (p : Psr) (a : Word) (b : Shifted) : Word × Psr :=
  match op with
  | .and => logicalOut p (a &&& b.value) b
  | .eor => logicalOut p (a ^^^ b.value) b
  | .sub => arithOut p (addWithCarry a (~~~b.value) true)
  | .rsb => arithOut p (addWithCarry b.value (~~~a) true)
  | .add => arithOut p (addWithCarry a b.value false)
  | .adc => arithOut p (addWithCarry a b.value p.c)
  | .sbc => arithOut p (addWithCarry a (~~~b.value) p.c)
  | .rsc => arithOut p (addWithCarry b.value (~~~a) p.c)
  | .orr => logicalOut p (a ||| b.value) b
  | .mov => logicalOut p b.value b
  | .bic => logicalOut p (a &&& ~~~b.value) b
  | .mvn => logicalOut p (~~~b.value) b

/-- The status register that the four tests leave (41 R190 to R193). -/
def testOut (op : TestOp) (p : Psr) (a : Word) (b : Shifted) : Psr :=
  match op with
  | .tst => (logicalOut p (a &&& b.value) b).2
  | .teq => (logicalOut p (a ^^^ b.value) b).2
  | .cmp => (arithOut p (addWithCarry a (~~~b.value) true)).2
  | .cmn => (arithOut p (addWithCarry a b.value false)).2

/-- The skeleton of a result-writing operation (41 R178): operands first, then Rd and, with S = 1, the flags; Rd = R15 is a
branch, with S = 1 a return from an exception (41 R176). -/
def State.dataOp (s : State) (op : AluOp) (c : Cond) (sf : Bool) (rn rd : Reg) (o : Op2) : Result :=
  s.conditional c fun s =>
    if o.excluded then .refused .shiftAmountR15
    else
      let out := aluOut op s.cpsr (s.op1 rn o) (s.op2 o)
      if rd = 15#4 then
        if sf then s.exceptionReturn out.1 else .next (s.branch out.1)
      else .next ((s.writeReg rd out.1).withCpsr (if sf then out.2 else s.cpsr)).advance

/-- The P form of a test, Rd = R15 (41 R177, U22): no effect in User mode; in a mode with an SPSR it becomes the CPSR; System
mode has none (U6). A change of T is the write that 10 R37 forbids (U1). DEDUCED, log 28. -/
def State.testP (s : State) : Result :=
  if s.cpsr.m = modeUsr then .next s.advance
  else
    match s.spsr with
    | none => .fault .noSpsr
    | some p => if p.t = s.cpsr.t then .next (s.withCpsr p).advance else .fault .stateBitChanged

/-- The skeleton of a test (41 R177, R178). -/
def State.testOp (s : State) (op : TestOp) (c : Cond) (rn rd : Reg) (o : Op2) : Result :=
  s.conditional c fun s =>
    if o.excluded then .refused .shiftAmountR15
    else if rd = 15#4 then s.testP
    else .next (s.withCpsr (testOut op s.cpsr (s.op1 rn o) (s.op2 o))).advance

/-- AND, immediate operand 2 (41 R182). -/
def execAndImm (c : Cond) (sf : Bool) (rn rd : Reg) (rot : BitVec 4) (imm : BitVec 8) (s : State) : Result :=
  s.dataOp .and c sf rn rd (.imm rot imm)

/-- AND, operand 2 shifted by an immediate amount (41 R182). -/
def execAndShift (c : Cond) (sf : Bool) (rn rd : Reg) (amt : BitVec 5) (ty : ShiftType) (rm : Reg) (s : State) : Result :=
  s.dataOp .and c sf rn rd (.shift amt ty rm)

/-- AND, operand 2 shifted by a register amount (41 R182). -/
def execAndReg (c : Cond) (sf : Bool) (rn rd rs : Reg) (ty : ShiftType) (rm : Reg) (s : State) : Result :=
  s.dataOp .and c sf rn rd (.reg rs ty rm)

/-- EOR, immediate operand 2 (41 R183). -/
def execEorImm (c : Cond) (sf : Bool) (rn rd : Reg) (rot : BitVec 4) (imm : BitVec 8) (s : State) : Result :=
  s.dataOp .eor c sf rn rd (.imm rot imm)

/-- EOR, operand 2 shifted by an immediate amount (41 R183). -/
def execEorShift (c : Cond) (sf : Bool) (rn rd : Reg) (amt : BitVec 5) (ty : ShiftType) (rm : Reg) (s : State) : Result :=
  s.dataOp .eor c sf rn rd (.shift amt ty rm)

/-- EOR, operand 2 shifted by a register amount (41 R183). -/
def execEorReg (c : Cond) (sf : Bool) (rn rd rs : Reg) (ty : ShiftType) (rm : Reg) (s : State) : Result :=
  s.dataOp .eor c sf rn rd (.reg rs ty rm)

/-- SUB, immediate operand 2 (41 R184). -/
def execSubImm (c : Cond) (sf : Bool) (rn rd : Reg) (rot : BitVec 4) (imm : BitVec 8) (s : State) : Result :=
  s.dataOp .sub c sf rn rd (.imm rot imm)

/-- SUB, operand 2 shifted by an immediate amount (41 R184). -/
def execSubShift (c : Cond) (sf : Bool) (rn rd : Reg) (amt : BitVec 5) (ty : ShiftType) (rm : Reg) (s : State) : Result :=
  s.dataOp .sub c sf rn rd (.shift amt ty rm)

/-- SUB, operand 2 shifted by a register amount (41 R184). -/
def execSubReg (c : Cond) (sf : Bool) (rn rd rs : Reg) (ty : ShiftType) (rm : Reg) (s : State) : Result :=
  s.dataOp .sub c sf rn rd (.reg rs ty rm)

/-- RSB, immediate operand 2 (41 R185). -/
def execRsbImm (c : Cond) (sf : Bool) (rn rd : Reg) (rot : BitVec 4) (imm : BitVec 8) (s : State) : Result :=
  s.dataOp .rsb c sf rn rd (.imm rot imm)

/-- RSB, operand 2 shifted by an immediate amount (41 R185). -/
def execRsbShift (c : Cond) (sf : Bool) (rn rd : Reg) (amt : BitVec 5) (ty : ShiftType) (rm : Reg) (s : State) : Result :=
  s.dataOp .rsb c sf rn rd (.shift amt ty rm)

/-- RSB, operand 2 shifted by a register amount (41 R185). -/
def execRsbReg (c : Cond) (sf : Bool) (rn rd rs : Reg) (ty : ShiftType) (rm : Reg) (s : State) : Result :=
  s.dataOp .rsb c sf rn rd (.reg rs ty rm)

/-- ADD, immediate operand 2 (41 R186). -/
def execAddImm (c : Cond) (sf : Bool) (rn rd : Reg) (rot : BitVec 4) (imm : BitVec 8) (s : State) : Result :=
  s.dataOp .add c sf rn rd (.imm rot imm)

/-- ADD, operand 2 shifted by an immediate amount (41 R186). -/
def execAddShift (c : Cond) (sf : Bool) (rn rd : Reg) (amt : BitVec 5) (ty : ShiftType) (rm : Reg) (s : State) : Result :=
  s.dataOp .add c sf rn rd (.shift amt ty rm)

/-- ADD, operand 2 shifted by a register amount (41 R186). -/
def execAddReg (c : Cond) (sf : Bool) (rn rd rs : Reg) (ty : ShiftType) (rm : Reg) (s : State) : Result :=
  s.dataOp .add c sf rn rd (.reg rs ty rm)

/-- ADC, immediate operand 2 (41 R187). -/
def execAdcImm (c : Cond) (sf : Bool) (rn rd : Reg) (rot : BitVec 4) (imm : BitVec 8) (s : State) : Result :=
  s.dataOp .adc c sf rn rd (.imm rot imm)

/-- ADC, operand 2 shifted by an immediate amount (41 R187). -/
def execAdcShift (c : Cond) (sf : Bool) (rn rd : Reg) (amt : BitVec 5) (ty : ShiftType) (rm : Reg) (s : State) : Result :=
  s.dataOp .adc c sf rn rd (.shift amt ty rm)

/-- ADC, operand 2 shifted by a register amount (41 R187). -/
def execAdcReg (c : Cond) (sf : Bool) (rn rd rs : Reg) (ty : ShiftType) (rm : Reg) (s : State) : Result :=
  s.dataOp .adc c sf rn rd (.reg rs ty rm)

/-- SBC, immediate operand 2 (41 R188). -/
def execSbcImm (c : Cond) (sf : Bool) (rn rd : Reg) (rot : BitVec 4) (imm : BitVec 8) (s : State) : Result :=
  s.dataOp .sbc c sf rn rd (.imm rot imm)

/-- SBC, operand 2 shifted by an immediate amount (41 R188). -/
def execSbcShift (c : Cond) (sf : Bool) (rn rd : Reg) (amt : BitVec 5) (ty : ShiftType) (rm : Reg) (s : State) : Result :=
  s.dataOp .sbc c sf rn rd (.shift amt ty rm)

/-- SBC, operand 2 shifted by a register amount (41 R188). -/
def execSbcReg (c : Cond) (sf : Bool) (rn rd rs : Reg) (ty : ShiftType) (rm : Reg) (s : State) : Result :=
  s.dataOp .sbc c sf rn rd (.reg rs ty rm)

/-- RSC, immediate operand 2 (41 R189). -/
def execRscImm (c : Cond) (sf : Bool) (rn rd : Reg) (rot : BitVec 4) (imm : BitVec 8) (s : State) : Result :=
  s.dataOp .rsc c sf rn rd (.imm rot imm)

/-- RSC, operand 2 shifted by an immediate amount (41 R189). -/
def execRscShift (c : Cond) (sf : Bool) (rn rd : Reg) (amt : BitVec 5) (ty : ShiftType) (rm : Reg) (s : State) : Result :=
  s.dataOp .rsc c sf rn rd (.shift amt ty rm)

/-- RSC, operand 2 shifted by a register amount (41 R189). -/
def execRscReg (c : Cond) (sf : Bool) (rn rd rs : Reg) (ty : ShiftType) (rm : Reg) (s : State) : Result :=
  s.dataOp .rsc c sf rn rd (.reg rs ty rm)

/-- TST, immediate operand 2 (41 R190). -/
def execTstImm (c : Cond) (rn rd : Reg) (rot : BitVec 4) (imm : BitVec 8) (s : State) : Result :=
  s.testOp .tst c rn rd (.imm rot imm)

/-- TST, operand 2 shifted by an immediate amount (41 R190). -/
def execTstShift (c : Cond) (rn rd : Reg) (amt : BitVec 5) (ty : ShiftType) (rm : Reg) (s : State) : Result :=
  s.testOp .tst c rn rd (.shift amt ty rm)

/-- TST, operand 2 shifted by a register amount (41 R190). -/
def execTstReg (c : Cond) (rn rd rs : Reg) (ty : ShiftType) (rm : Reg) (s : State) : Result :=
  s.testOp .tst c rn rd (.reg rs ty rm)

/-- TEQ, immediate operand 2 (41 R191). -/
def execTeqImm (c : Cond) (rn rd : Reg) (rot : BitVec 4) (imm : BitVec 8) (s : State) : Result :=
  s.testOp .teq c rn rd (.imm rot imm)

/-- TEQ, operand 2 shifted by an immediate amount (41 R191). -/
def execTeqShift (c : Cond) (rn rd : Reg) (amt : BitVec 5) (ty : ShiftType) (rm : Reg) (s : State) : Result :=
  s.testOp .teq c rn rd (.shift amt ty rm)

/-- TEQ, operand 2 shifted by a register amount (41 R191). -/
def execTeqReg (c : Cond) (rn rd rs : Reg) (ty : ShiftType) (rm : Reg) (s : State) : Result :=
  s.testOp .teq c rn rd (.reg rs ty rm)

/-- CMP, immediate operand 2 (41 R192). -/
def execCmpImm (c : Cond) (rn rd : Reg) (rot : BitVec 4) (imm : BitVec 8) (s : State) : Result :=
  s.testOp .cmp c rn rd (.imm rot imm)

/-- CMP, operand 2 shifted by an immediate amount (41 R192). -/
def execCmpShift (c : Cond) (rn rd : Reg) (amt : BitVec 5) (ty : ShiftType) (rm : Reg) (s : State) : Result :=
  s.testOp .cmp c rn rd (.shift amt ty rm)

/-- CMP, operand 2 shifted by a register amount (41 R192). -/
def execCmpReg (c : Cond) (rn rd rs : Reg) (ty : ShiftType) (rm : Reg) (s : State) : Result :=
  s.testOp .cmp c rn rd (.reg rs ty rm)

/-- CMN, immediate operand 2 (41 R193). -/
def execCmnImm (c : Cond) (rn rd : Reg) (rot : BitVec 4) (imm : BitVec 8) (s : State) : Result :=
  s.testOp .cmn c rn rd (.imm rot imm)

/-- CMN, operand 2 shifted by an immediate amount (41 R193). -/
def execCmnShift (c : Cond) (rn rd : Reg) (amt : BitVec 5) (ty : ShiftType) (rm : Reg) (s : State) : Result :=
  s.testOp .cmn c rn rd (.shift amt ty rm)

/-- CMN, operand 2 shifted by a register amount (41 R193). -/
def execCmnReg (c : Cond) (rn rd rs : Reg) (ty : ShiftType) (rm : Reg) (s : State) : Result :=
  s.testOp .cmn c rn rd (.reg rs ty rm)

/-- ORR, immediate operand 2 (41 R194). -/
def execOrrImm (c : Cond) (sf : Bool) (rn rd : Reg) (rot : BitVec 4) (imm : BitVec 8) (s : State) : Result :=
  s.dataOp .orr c sf rn rd (.imm rot imm)

/-- ORR, operand 2 shifted by an immediate amount (41 R194). -/
def execOrrShift (c : Cond) (sf : Bool) (rn rd : Reg) (amt : BitVec 5) (ty : ShiftType) (rm : Reg) (s : State) : Result :=
  s.dataOp .orr c sf rn rd (.shift amt ty rm)

/-- ORR, operand 2 shifted by a register amount (41 R194). -/
def execOrrReg (c : Cond) (sf : Bool) (rn rd rs : Reg) (ty : ShiftType) (rm : Reg) (s : State) : Result :=
  s.dataOp .orr c sf rn rd (.reg rs ty rm)

/-- MOV, immediate operand 2 (41 R195). -/
def execMovImm (c : Cond) (sf : Bool) (rn rd : Reg) (rot : BitVec 4) (imm : BitVec 8) (s : State) : Result :=
  s.dataOp .mov c sf rn rd (.imm rot imm)

/-- MOV, operand 2 shifted by an immediate amount (41 R195). -/
def execMovShift (c : Cond) (sf : Bool) (rn rd : Reg) (amt : BitVec 5) (ty : ShiftType) (rm : Reg) (s : State) : Result :=
  s.dataOp .mov c sf rn rd (.shift amt ty rm)

/-- MOV, operand 2 shifted by a register amount (41 R195). -/
def execMovReg (c : Cond) (sf : Bool) (rn rd rs : Reg) (ty : ShiftType) (rm : Reg) (s : State) : Result :=
  s.dataOp .mov c sf rn rd (.reg rs ty rm)

/-- BIC, immediate operand 2 (41 R196). -/
def execBicImm (c : Cond) (sf : Bool) (rn rd : Reg) (rot : BitVec 4) (imm : BitVec 8) (s : State) : Result :=
  s.dataOp .bic c sf rn rd (.imm rot imm)

/-- BIC, operand 2 shifted by an immediate amount (41 R196). -/
def execBicShift (c : Cond) (sf : Bool) (rn rd : Reg) (amt : BitVec 5) (ty : ShiftType) (rm : Reg) (s : State) : Result :=
  s.dataOp .bic c sf rn rd (.shift amt ty rm)

/-- BIC, operand 2 shifted by a register amount (41 R196). -/
def execBicReg (c : Cond) (sf : Bool) (rn rd rs : Reg) (ty : ShiftType) (rm : Reg) (s : State) : Result :=
  s.dataOp .bic c sf rn rd (.reg rs ty rm)

/-- MVN, immediate operand 2 (41 R197). -/
def execMvnImm (c : Cond) (sf : Bool) (rn rd : Reg) (rot : BitVec 4) (imm : BitVec 8) (s : State) : Result :=
  s.dataOp .mvn c sf rn rd (.imm rot imm)

/-- MVN, operand 2 shifted by an immediate amount (41 R197). -/
def execMvnShift (c : Cond) (sf : Bool) (rn rd : Reg) (amt : BitVec 5) (ty : ShiftType) (rm : Reg) (s : State) : Result :=
  s.dataOp .mvn c sf rn rd (.shift amt ty rm)

/-- MVN, operand 2 shifted by a register amount (41 R197). -/
def execMvnReg (c : Cond) (sf : Bool) (rn rd rs : Reg) (ty : ShiftType) (rm : Reg) (s : State) : Result :=
  s.dataOp .mvn c sf rn rd (.reg rs ty rm)

end Sys2Proof.Machine
end

