-- ==== Sys2Proof/Machine/Multiply.lean ====
section
/-! DEFINITION. The multiplies (43_arm_multiply.md). -/

namespace Sys2Proof.Machine

/-- The end of a 32-bit multiply: Rd and, with S = 1, the flags (43 R222); C is free (U24). With `clash`, Rd = Rm, the
result, N and Z are free as well (43 R224, U25). -/
def State.mulEnd (s : State) (sf : Bool) (rd : Reg) (clash : Bool) (r : Word) : Result :=
  let v := if clash then (Config.mulResult s.freeCtr).extractLsb' 0 32 else r
  let p := s.cpsr.mulFlags v (Config.mulCarry s.freeCtr)
  let p := if clash then { p with n := Config.mulNegative s.freeCtr, z := Config.mulZero s.freeCtr } else p
  .next ((s.writeReg rd v).withCpsr (if sf then p else s.cpsr)).advance

/-- MUL and MLA (43 R221, R223, R224); the Rn of MUL is ignored. -/
def State.multiply (s : State) (acc sf : Bool) (rd rn rs rm : Reg) : Result :=
  if rd = 15#4 || rs = 15#4 || rm = 15#4 || (acc && rn = 15#4) then .refused .multiplyR15
  else s.mulEnd sf rd (rd = rm) (s.operand rm * s.operand rs + if acc then s.operand rn else 0#32)

/-- The end of a long multiply: RdLo, RdHi and, with S = 1, the flags (43 R228); C and V are free (U24). With `clash` the
result, N and Z are free as well (43 R233, U25). -/
def State.mulLongEnd (s : State) (sf : Bool) (hi lo : Reg) (clash : Bool) (r : BitVec 64) : Result :=
  let v := if clash then Config.mulResult s.freeCtr else r
  let p := s.cpsr.mulLongFlags v (Config.mulCarry s.freeCtr) (Config.mulOverflow s.freeCtr)
  let p := if clash then { p with n := Config.mulNegative s.freeCtr, z := Config.mulZero s.freeCtr } else p
  .next (((s.writeReg lo (v.extractLsb' 0 32)).writeReg hi (v.extractLsb' 32 32)).withCpsr
    (if sf then p else s.cpsr)).advance

/-- The 64-bit result of a long multiply (43 R229 to R232), from the values of Rm, Rs, RdHi and RdLo. -/
def longProduct (op : LongOp) (m r hi lo : Word) : BitVec 64 :=
  match op with
  | .umull => m.setWidth 64 * r.setWidth 64
  | .umlal => m.setWidth 64 * r.setWidth 64 + (hi ++ lo)
  | .smull => m.signExtend 64 * r.signExtend 64
  | .smlal => m.signExtend 64 * r.signExtend 64 + (hi ++ lo)

/-- The long multiplies (43 R229 to R233). -/
def State.multiplyLong (s : State) (op : LongOp) (sf : Bool) (hi lo rs rm : Reg) : Result :=
  if hi = 15#4 || lo = 15#4 || rs = 15#4 || rm = 15#4 then .refused .multiplyR15
  else
    s.mulLongEnd sf hi lo (hi = lo || hi = rm || lo = rm)
      (longProduct op (s.operand rm) (s.operand rs) (s.operand hi) (s.operand lo))

/-- MUL (43 R221). -/
def execMul (c : Cond) (sf : Bool) (rd rn rs rm : Reg) (s : State) : Result :=
  s.conditional c fun s => s.multiply false sf rd rn rs rm

/-- MLA (43 R223). -/
def execMla (c : Cond) (sf : Bool) (rd rn rs rm : Reg) (s : State) : Result :=
  s.conditional c fun s => s.multiply true sf rd rn rs rm

/-- UMULL (43 R229). -/
def execUmull (c : Cond) (sf : Bool) (hi lo rs rm : Reg) (s : State) : Result :=
  s.conditional c fun s => s.multiplyLong .umull sf hi lo rs rm

/-- UMLAL (43 R230). -/
def execUmlal (c : Cond) (sf : Bool) (hi lo rs rm : Reg) (s : State) : Result :=
  s.conditional c fun s => s.multiplyLong .umlal sf hi lo rs rm

/-- SMULL (43 R231). -/
def execSmull (c : Cond) (sf : Bool) (hi lo rs rm : Reg) (s : State) : Result :=
  s.conditional c fun s => s.multiplyLong .smull sf hi lo rs rm

/-- SMLAL (43 R232). -/
def execSmlal (c : Cond) (sf : Bool) (hi lo rs rm : Reg) (s : State) : Result :=
  s.conditional c fun s => s.multiplyLong .smlal sf hi lo rs rm

end Sys2Proof.Machine
end

