-- ==== Sys2Proof/Machine/PsrTransfer.lean ====
section
/-! DEFINITION. MRS and MSR (42_arm_psr_transfer.md). -/

namespace Sys2Proof.Machine

/-- A write of the whole CPSR (42 R212): User mode writes the flags only; a privileged mode, and any mode in debug state
(61 R493), writes all twelve bits; a changed T bit is U1. -/
def State.writeCpsr (s : State) (w : Word) : Result :=
  if s.privileged || s.dbg.active then
    if w.getLsbD 5 = s.cpsr.t then .next (s.withCpsr (Psr.ofWord w)).advance else .fault .stateBitChanged
  else .next (s.withCpsr (s.cpsr.withFlags w)).advance

/-- A write of the SPSR of the current mode (42 R212, R213); User and System mode have none (U6). -/
def State.writeSpsr (s : State) (f : Psr → Psr) : Result :=
  match s.spsr with
  | none => .fault .noSpsr
  | some p => .next { s with spsrs := s.spsrs.set s.cpsr.m (f p) }.advance

/-- A write of the flag bits of a PSR (42 R213). -/
def State.writeFlags (s : State) (spsr : Bool) (w : Word) : Result :=
  if spsr then s.writeSpsr fun p => p.withFlags w else .next (s.withCpsr (s.cpsr.withFlags w)).advance

/-- A PSR read into Rd (42 R211), bits 27:8 free (U3). -/
def State.readPsr (s : State) (spsr : Bool) (rd : Reg) : Result :=
  match if spsr then s.spsr else some s.cpsr with
  | none => .fault .noSpsr
  | some p => .next (s.writeReg rd (p.toWord (Config.psrReserved s.freeCtr))).advance

/-- MRS (42 R211). -/
def execMrs (c : Cond) (spsr : Bool) (rd : Reg) (s : State) : Result :=
  s.conditional c fun s => if rd = 15#4 then .refused .psrTransferR15 else s.readPsr spsr rd

/-- MSR, register to the whole PSR (42 R212). -/
def execMsrReg (c : Cond) (spsr : Bool) (rm : Reg) (s : State) : Result :=
  s.conditional c fun s =>
    if rm = 15#4 then .refused .psrTransferR15
    else if spsr then s.writeSpsr fun _ => Psr.ofWord (s.operand rm)
    else s.writeCpsr (s.operand rm)

/-- MSR, register to the flag bits (42 R213). -/
def execMsrFlagsReg (c : Cond) (spsr : Bool) (rm : Reg) (s : State) : Result :=
  s.conditional c fun s => if rm = 15#4 then .refused .psrTransferR15 else s.writeFlags spsr (s.operand rm)

/-- MSR, immediate to the flag bits (42 R213). -/
def execMsrFlagsImm (c : Cond) (spsr : Bool) (rot : BitVec 4) (imm : BitVec 8) (s : State) : Result :=
  s.conditional c fun s => s.writeFlags spsr (rotatedImm rot imm s.cpsr.c).value

end Sys2Proof.Machine
end

