-- ==== Sys2Proof/Machine/ThumbAlu.lean ====
section
/-! DEFINITION. The THUMB register operations, Formats 1 to 5, 12 and 13 (47_thumb_alu.md), by their ARM equivalents. -/

namespace Sys2Proof.Machine

/-- A Lo register written and the status register replaced: the end of a flag-setting THUMB operation. -/
def State.thumbSet (s : State) (rd : LoReg) (out : Word × Psr) : Result :=
  .next ((s.writeReg (loReg rd) out.1).withCpsr out.2).advance

/-- The end of a THUMB comparison: only the status register changes. -/
def State.thumbTest (s : State) (p : Psr) : Result := .next (s.withCpsr p).advance

/-- An unshifted operand: the carry of a logical operation is the old C (47 R331). -/
def State.plain (s : State) (v : Word) : Shifted := ⟨v, s.cpsr.c⟩

/-- BX of THUMB (47 R352): BX PC must stand at a word-aligned address (U42); in debug state the PC has no such meaning
(61 R494). -/
def State.thumbExchange (s : State) (r : Reg) : Result :=
  if r = 15#4 && s.pc.getLsbD 1 && !s.dbg.active then .fault .bxPcMisaligned
  else .next (s.exchange (s.operand r))

/-- Format 1 LSL by an immediate amount (47 R317). -/
def execTLslImm (off : BitVec 5) (rs rd : LoReg) (s : State) : Result :=
  s.thumbSet rd (aluOut .mov s.cpsr 0#32 (shiftImm .lsl (s.operand (loReg rs)) off s.cpsr.c))

/-- Format 1 LSR by an immediate amount (47 R318). -/
def execTLsrImm (off : BitVec 5) (rs rd : LoReg) (s : State) : Result :=
  s.thumbSet rd (aluOut .mov s.cpsr 0#32 (shiftImm .lsr (s.operand (loReg rs)) off s.cpsr.c))

/-- Format 1 ASR by an immediate amount (47 R319). -/
def execTAsrImm (off : BitVec 5) (rs rd : LoReg) (s : State) : Result :=
  s.thumbSet rd (aluOut .mov s.cpsr 0#32 (shiftImm .asr (s.operand (loReg rs)) off s.cpsr.c))

/-- Format 2 ADD (47 R321). -/
def execTAddReg (rn rs rd : LoReg) (s : State) : Result :=
  s.thumbSet rd (aluOut .add s.cpsr (s.operand (loReg rs)) (s.plain (s.operand (loReg rn))))

/-- Format 2 SUB (47 R323). -/
def execTSubReg (rn rs rd : LoReg) (s : State) : Result :=
  s.thumbSet rd (aluOut .sub s.cpsr (s.operand (loReg rs)) (s.plain (s.operand (loReg rn))))

/-- Format 2 ADD, immediate (47 R322). -/
def execTAddImm3 (off : BitVec 3) (rs rd : LoReg) (s : State) : Result :=
  s.thumbSet rd (aluOut .add s.cpsr (s.operand (loReg rs)) (s.plain (off.setWidth 32)))

/-- Format 2 SUB, immediate (47 R324). -/
def execTSubImm3 (off : BitVec 3) (rs rd : LoReg) (s : State) : Result :=
  s.thumbSet rd (aluOut .sub s.cpsr (s.operand (loReg rs)) (s.plain (off.setWidth 32)))

/-- Format 3 MOV (47 R326). -/
def execTMovImm (rd : LoReg) (off : BitVec 8) (s : State) : Result :=
  s.thumbSet rd (aluOut .mov s.cpsr 0#32 (s.plain (off.setWidth 32)))

/-- Format 3 CMP (47 R327). -/
def execTCmpImm (rd : LoReg) (off : BitVec 8) (s : State) : Result :=
  s.thumbTest (testOut .cmp s.cpsr (s.operand (loReg rd)) (s.plain (off.setWidth 32)))

/-- Format 3 ADD (47 R328). -/
def execTAddImm8 (rd : LoReg) (off : BitVec 8) (s : State) : Result :=
  s.thumbSet rd (aluOut .add s.cpsr (s.operand (loReg rd)) (s.plain (off.setWidth 32)))

/-- Format 3 SUB (47 R329). -/
def execTSubImm8 (rd : LoReg) (off : BitVec 8) (s : State) : Result :=
  s.thumbSet rd (aluOut .sub s.cpsr (s.operand (loReg rd)) (s.plain (off.setWidth 32)))

/-- Format 4 AND (47 R331). -/
def execTAnd (rs rd : LoReg) (s : State) : Result :=
  s.thumbSet rd (aluOut .and s.cpsr (s.operand (loReg rd)) (s.plain (s.operand (loReg rs))))

/-- Format 4 EOR (47 R332). -/
def execTEor (rs rd : LoReg) (s : State) : Result :=
  s.thumbSet rd (aluOut .eor s.cpsr (s.operand (loReg rd)) (s.plain (s.operand (loReg rs))))

/-- Format 4 LSL (47 R333). -/
def execTLslReg (rs rd : LoReg) (s : State) : Result :=
  s.thumbSet rd (aluOut .mov s.cpsr 0#32
    (shiftReg .lsl (s.operand (loReg rd)) ((s.operand (loReg rs)).extractLsb' 0 8) s.cpsr.c))

/-- Format 4 LSR (47 R334). -/
def execTLsrReg (rs rd : LoReg) (s : State) : Result :=
  s.thumbSet rd (aluOut .mov s.cpsr 0#32
    (shiftReg .lsr (s.operand (loReg rd)) ((s.operand (loReg rs)).extractLsb' 0 8) s.cpsr.c))

/-- Format 4 ASR (47 R335). -/
def execTAsrReg (rs rd : LoReg) (s : State) : Result :=
  s.thumbSet rd (aluOut .mov s.cpsr 0#32
    (shiftReg .asr (s.operand (loReg rd)) ((s.operand (loReg rs)).extractLsb' 0 8) s.cpsr.c))

/-- Format 4 ADC (47 R336). -/
def execTAdc (rs rd : LoReg) (s : State) : Result :=
  s.thumbSet rd (aluOut .adc s.cpsr (s.operand (loReg rd)) (s.plain (s.operand (loReg rs))))

/-- Format 4 SBC (47 R337). -/
def execTSbc (rs rd : LoReg) (s : State) : Result :=
  s.thumbSet rd (aluOut .sbc s.cpsr (s.operand (loReg rd)) (s.plain (s.operand (loReg rs))))

/-- Format 4 ROR (47 R338). -/
def execTRorReg (rs rd : LoReg) (s : State) : Result :=
  s.thumbSet rd (aluOut .mov s.cpsr 0#32
    (shiftReg .ror (s.operand (loReg rd)) ((s.operand (loReg rs)).extractLsb' 0 8) s.cpsr.c))

/-- Format 4 TST (47 R339). -/
def execTTst (rs rd : LoReg) (s : State) : Result :=
  s.thumbTest (testOut .tst s.cpsr (s.operand (loReg rd)) (s.plain (s.operand (loReg rs))))

/-- Format 4 NEG (47 R340). -/
def execTNeg (rs rd : LoReg) (s : State) : Result :=
  s.thumbSet rd (aluOut .rsb s.cpsr (s.operand (loReg rs)) (s.plain 0#32))

/-- Format 4 CMP (47 R341). -/
def execTCmp (rs rd : LoReg) (s : State) : Result :=
  s.thumbTest (testOut .cmp s.cpsr (s.operand (loReg rd)) (s.plain (s.operand (loReg rs))))

/-- Format 4 CMN (47 R342). -/
def execTCmn (rs rd : LoReg) (s : State) : Result :=
  s.thumbTest (testOut .cmn s.cpsr (s.operand (loReg rd)) (s.plain (s.operand (loReg rs))))

/-- Format 4 ORR (47 R343). -/
def execTOrr (rs rd : LoReg) (s : State) : Result :=
  s.thumbSet rd (aluOut .orr s.cpsr (s.operand (loReg rd)) (s.plain (s.operand (loReg rs))))

/-- Format 4 MUL (47 R344). -/
def execTMul (rs rd : LoReg) (s : State) : Result :=
  s.mulEnd true (loReg rd) (rs = rd) (s.operand (loReg rs) * s.operand (loReg rd))

/-- Format 4 BIC (47 R345). -/
def execTBic (rs rd : LoReg) (s : State) : Result :=
  s.thumbSet rd (aluOut .bic s.cpsr (s.operand (loReg rd)) (s.plain (s.operand (loReg rs))))

/-- Format 4 MVN (47 R346). -/
def execTMvn (rs rd : LoReg) (s : State) : Result :=
  s.thumbSet rd (aluOut .mvn s.cpsr 0#32 (s.plain (s.operand (loReg rs))))

/-- Format 5 ADD Rd, Hs (47 R348). -/
def execTAddLoHi (rs rd : LoReg) (s : State) : Result :=
  .next (s.finish (loReg rd) (s.operand (loReg rd) + s.operand (hiReg rs)))

/-- Format 5 ADD Hd, Rs (47 R348). -/
def execTAddHiLo (rs rd : LoReg) (s : State) : Result :=
  .next (s.finish (hiReg rd) (s.operand (hiReg rd) + s.operand (loReg rs)))

/-- Format 5 ADD Hd, Hs (47 R348). -/
def execTAddHiHi (rs rd : LoReg) (s : State) : Result :=
  .next (s.finish (hiReg rd) (s.operand (hiReg rd) + s.operand (hiReg rs)))

/-- Format 5 ADD with H1 = H2 = 0, UNPREDICTABLE (U40) (47 R353). -/
def execTAddLoLo (_rs _rd : LoReg) (_s : State) : Result := .refused .hiRegisterLoLo

/-- Format 5 CMP Rd, Hs (47 R349). -/
def execTCmpLoHi (rs rd : LoReg) (s : State) : Result :=
  s.thumbTest (testOut .cmp s.cpsr (s.operand (loReg rd)) (s.plain (s.operand (hiReg rs))))

/-- Format 5 CMP Hd, Rs (47 R349). -/
def execTCmpHiLo (rs rd : LoReg) (s : State) : Result :=
  s.thumbTest (testOut .cmp s.cpsr (s.operand (hiReg rd)) (s.plain (s.operand (loReg rs))))

/-- Format 5 CMP Hd, Hs (47 R349). -/
def execTCmpHiHi (rs rd : LoReg) (s : State) : Result :=
  s.thumbTest (testOut .cmp s.cpsr (s.operand (hiReg rd)) (s.plain (s.operand (hiReg rs))))

/-- Format 5 CMP with H1 = H2 = 0, UNPREDICTABLE (U40) (47 R353). -/
def execTCmpLoLo (_rs _rd : LoReg) (_s : State) : Result := .refused .hiRegisterLoLo

/-- Format 5 MOV Rd, Hs (47 R350). -/
def execTMovLoHi (rs rd : LoReg) (s : State) : Result := .next (s.finish (loReg rd) (s.operand (hiReg rs)))

/-- Format 5 MOV Hd, Rs (47 R350). -/
def execTMovHiLo (rs rd : LoReg) (s : State) : Result := .next (s.finish (hiReg rd) (s.operand (loReg rs)))

/-- Format 5 MOV Hd, Hs (47 R350). -/
def execTMovHiHi (rs rd : LoReg) (s : State) : Result := .next (s.finish (hiReg rd) (s.operand (hiReg rs)))

/-- Format 5 MOV with H1 = H2 = 0, UNPREDICTABLE (U40) (47 R353). -/
def execTMovLoLo (_rs _rd : LoReg) (_s : State) : Result := .refused .hiRegisterLoLo

/-- Format 5 BX Rs (47 R352). -/
def execTBxLo (rs : LoReg) (_x : BitVec 3) (s : State) : Result := s.thumbExchange (loReg rs)

/-- Format 5 BX Hs (47 R352). -/
def execTBxHi (rs : LoReg) (_x : BitVec 3) (s : State) : Result := s.thumbExchange (hiReg rs)

/-- Format 5 BX with H1 = 1, UNPREDICTABLE (U41) (47 R353). -/
def execTBxH1 (_h2 : Bool) (_rs : LoReg) (_x : BitVec 3) (_s : State) : Result := .refused .thumbBxH1

/-- Format 12 ADD Rd, PC (47 R355). -/
def execTAddPc (rd : LoReg) (imm : BitVec 8) (s : State) : Result :=
  .next (s.finish (loReg rd) (s.thumbPcBase + 4#32 * imm.setWidth 32))

/-- Format 12 ADD Rd, SP (47 R356). -/
def execTAddSp (rd : LoReg) (imm : BitVec 8) (s : State) : Result :=
  .next (s.finish (loReg rd) (s.operand 13#4 + 4#32 * imm.setWidth 32))

/-- Format 13 ADD SP, #Imm (47 R358). -/
def execTAddSpPos (imm : BitVec 7) (s : State) : Result :=
  .next (s.finish 13#4 (s.operand 13#4 + 4#32 * imm.setWidth 32))

/-- Format 13 ADD SP, #-Imm (47 R358). -/
def execTAddSpNeg (imm : BitVec 7) (s : State) : Result :=
  .next (s.finish 13#4 (s.operand 13#4 - 4#32 * imm.setWidth 32))

end Sys2Proof.Machine
end

