-- ==== Sys2Proof/Machine/ThumbBranch.lean ====
section
/-! DEFINITION. The THUMB branches, Formats 16, 18 and 19 (49_thumb_branch.md). -/

namespace Sys2Proof.Machine

/-- The conditional branch of Format 16 (49 R411). -/
def State.thumbBranchIf (s : State) (c : Cond) (off : BitVec 8) : Result :=
  .next (if condPassed c s.cpsr then s.branch (s.pc + 4#32 + halfwordOffset off) else s.advance)

/-- BEQ (49 R411). -/
def execTBeq (off : BitVec 8) (s : State) : Result := s.thumbBranchIf .eq off

/-- BNE (49 R411). -/
def execTBne (off : BitVec 8) (s : State) : Result := s.thumbBranchIf .ne off

/-- BCS (49 R411). -/
def execTBcs (off : BitVec 8) (s : State) : Result := s.thumbBranchIf .cs off

/-- BCC (49 R411). -/
def execTBcc (off : BitVec 8) (s : State) : Result := s.thumbBranchIf .cc off

/-- BMI (49 R411). -/
def execTBmi (off : BitVec 8) (s : State) : Result := s.thumbBranchIf .mi off

/-- BPL (49 R411). -/
def execTBpl (off : BitVec 8) (s : State) : Result := s.thumbBranchIf .pl off

/-- BVS (49 R411). -/
def execTBvs (off : BitVec 8) (s : State) : Result := s.thumbBranchIf .vs off

/-- BVC (49 R411). -/
def execTBvc (off : BitVec 8) (s : State) : Result := s.thumbBranchIf .vc off

/-- BHI (49 R411). -/
def execTBhi (off : BitVec 8) (s : State) : Result := s.thumbBranchIf .hi off

/-- BLS (49 R411). -/
def execTBls (off : BitVec 8) (s : State) : Result := s.thumbBranchIf .ls off

/-- BGE (49 R411). -/
def execTBge (off : BitVec 8) (s : State) : Result := s.thumbBranchIf .ge off

/-- BLT (49 R411). -/
def execTBlt (off : BitVec 8) (s : State) : Result := s.thumbBranchIf .lt off

/-- BGT (49 R411). -/
def execTBgt (off : BitVec 8) (s : State) : Result := s.thumbBranchIf .gt off

/-- BLE (49 R411). -/
def execTBle (off : BitVec 8) (s : State) : Result := s.thumbBranchIf .le off

/-- Format 18 B (49 R414). -/
def execTB (off : BitVec 11) (s : State) : Result := .next (s.branch (s.pc + 4#32 + halfwordOffset off))

/-- Format 19 BL, first instruction (49 R416). -/
def execTBlHigh (off : BitVec 11) (s : State) : Result :=
  .next ((s.writeReg 14#4 (s.pc + 4#32 + (off.signExtend 32 <<< 12))).advance)

/-- Format 19 BL, second instruction (49 R417). -/
def execTBlLow (off : BitVec 11) (s : State) : Result :=
  .next ((s.writeReg 14#4 ((s.pc + 2#32) ||| 1#32)).branch (s.operand 14#4 + (off.setWidth 32 <<< 1)))

end Sys2Proof.Machine
end

