-- ==== Sys2Proof/Machine/ThumbTransfer.lean ====
section
/-! DEFINITION. The THUMB loads and stores, Formats 6 to 11, 14 and 15 (48_thumb_load_store.md). -/

namespace Sys2Proof.Machine

/-- The address of Formats 7 and 8 (48 R373, R378). -/
def State.thumbRegAddr (s : State) (rb ro : LoReg) : Word := s.operand (loReg rb) + s.operand (loReg ro)

/-- The address of Formats 9 and 10 (48 R383, R388): the offset counts units of `scale` bytes. -/
def State.thumbImmAddr (s : State) (rb : LoReg) (off : BitVec 5) (scale : Word) : Word :=
  s.operand (loReg rb) + scale * off.setWidth 32

/-- The address of Format 11 (48 R390). -/
def State.thumbSpAddr (s : State) (imm : BitVec 8) : Word := s.operand 13#4 + 4#32 * imm.setWidth 32

/-- Format 6 LDR (48 R372). -/
def execTLdrPc (rd : LoReg) (imm : BitVec 8) (s : State) : Result :=
  s.loadInto .word s.privileged (loReg rd) (s.thumbPcBase + 4#32 * imm.setWidth 32)

/-- Format 7 STR (48 R374). -/
def execTStrReg (ro rb rd : LoReg) (s : State) : Result :=
  s.storeFrom .word s.privileged (s.thumbRegAddr rb ro) (s.operand (loReg rd))

/-- Format 7 STRB (48 R375). -/
def execTStrbReg (ro rb rd : LoReg) (s : State) : Result :=
  s.storeFrom .byte s.privileged (s.thumbRegAddr rb ro) (s.operand (loReg rd))

/-- Format 7 LDR (48 R376). -/
def execTLdrReg (ro rb rd : LoReg) (s : State) : Result :=
  s.loadInto .word s.privileged (loReg rd) (s.thumbRegAddr rb ro)

/-- Format 7 LDRB (48 R377). -/
def execTLdrbReg (ro rb rd : LoReg) (s : State) : Result :=
  s.loadInto .byte s.privileged (loReg rd) (s.thumbRegAddr rb ro)

/-- Format 8 STRH (48 R379). -/
def execTStrhReg (ro rb rd : LoReg) (s : State) : Result :=
  s.storeFrom .half s.privileged (s.thumbRegAddr rb ro) (s.operand (loReg rd))

/-- Format 8 LDRH (48 R380). -/
def execTLdrhReg (ro rb rd : LoReg) (s : State) : Result :=
  s.loadInto .half s.privileged (loReg rd) (s.thumbRegAddr rb ro)

/-- Format 8 LDSB (48 R381). -/
def execTLdsbReg (ro rb rd : LoReg) (s : State) : Result :=
  s.loadInto .signedByte s.privileged (loReg rd) (s.thumbRegAddr rb ro)

/-- Format 8 LDSH (48 R382). -/
def execTLdshReg (ro rb rd : LoReg) (s : State) : Result :=
  s.loadInto .signedHalf s.privileged (loReg rd) (s.thumbRegAddr rb ro)

/-- Format 9 STR (48 R384). -/
def execTStrImm (off : BitVec 5) (rb rd : LoReg) (s : State) : Result :=
  s.storeFrom .word s.privileged (s.thumbImmAddr rb off 4#32) (s.operand (loReg rd))

/-- Format 9 LDR (48 R385). -/
def execTLdrImm (off : BitVec 5) (rb rd : LoReg) (s : State) : Result :=
  s.loadInto .word s.privileged (loReg rd) (s.thumbImmAddr rb off 4#32)

/-- Format 9 STRB (48 R386). -/
def execTStrbImm (off : BitVec 5) (rb rd : LoReg) (s : State) : Result :=
  s.storeFrom .byte s.privileged (s.thumbImmAddr rb off 1#32) (s.operand (loReg rd))

/-- Format 9 LDRB (48 R387). -/
def execTLdrbImm (off : BitVec 5) (rb rd : LoReg) (s : State) : Result :=
  s.loadInto .byte s.privileged (loReg rd) (s.thumbImmAddr rb off 1#32)

/-- Format 10 STRH (48 R388). -/
def execTStrhImm (off : BitVec 5) (rb rd : LoReg) (s : State) : Result :=
  s.storeFrom .half s.privileged (s.thumbImmAddr rb off 2#32) (s.operand (loReg rd))

/-- Format 10 LDRH (48 R389). -/
def execTLdrhImm (off : BitVec 5) (rb rd : LoReg) (s : State) : Result :=
  s.loadInto .half s.privileged (loReg rd) (s.thumbImmAddr rb off 2#32)

/-- Format 11 STR (48 R390). -/
def execTStrSp (rd : LoReg) (imm : BitVec 8) (s : State) : Result :=
  s.storeFrom .word s.privileged (s.thumbSpAddr imm) (s.operand (loReg rd))

/-- Format 11 LDR (48 R391). -/
def execTLdrSp (rd : LoReg) (imm : BitVec 8) (s : State) : Result :=
  s.loadInto .word s.privileged (loReg rd) (s.thumbSpAddr imm)

/-- Format 14 PUSH (48 R394). -/
def execTPush (list : BitVec 8) (s : State) : Result := s.storeMultiple true false false true 13#4 (loList list)

/-- Format 14 PUSH with LR (48 R395). -/
def execTPushLr (list : BitVec 8) (s : State) : Result :=
  s.storeMultiple true false false true 13#4 (loList list ||| 0x4000#16)

/-- Format 14 POP (48 R397). -/
def execTPop (list : BitVec 8) (s : State) : Result := s.loadMultiple false true false true 13#4 (loList list)

/-- Format 14 POP with PC (48 R396). -/
def execTPopPc (list : BitVec 8) (s : State) : Result :=
  s.loadMultiple false true false true 13#4 (loList list ||| 0x8000#16)

/-- Format 15 STMIA (48 R399). -/
def execTStmia (rb : LoReg) (list : BitVec 8) (s : State) : Result :=
  s.storeMultiple false true false true (loReg rb) (loList list)

/-- Format 15 LDMIA (48 R400). -/
def execTLdmia (rb : LoReg) (list : BitVec 8) (s : State) : Result :=
  s.loadMultiple false true false true (loReg rb) (loList list)

end Sys2Proof.Machine
end

