-- ==== Sys2Proof/Machine/Traps.lean ====
section
/-! DEFINITION. The instructions that only take an exception: SWI, the Undefined instruction, the unallocated THUMB halfwords. -/

namespace Sys2Proof.Machine

/-- SWI (46 R291). -/
def execSwi (c : Cond) (_comment : BitVec 24) (s : State) : Result := s.conditional c fun s => .next s.takeSwi

/-- The Undefined instruction (46 R310). -/
def execUndef (c : Cond) (_x : BitVec 20) (_y : BitVec 4) (s : State) : Result :=
  s.conditional c fun s => .next s.takeUndefined

/-- Format 16 with Cond = 1110 (D19) (49 R412). -/
def execTUndefCond (_x : BitVec 8) (s : State) : Result := .next s.takeUndefined

/-- THUMB SWI (49 R413). -/
def execTSwi (_comment : BitVec 8) (s : State) : Result := .next s.takeSwi

/-- An unallocated THUMB halfword (D19), row 192 (30 R131, 60 R445). -/
def execTUndefB1 (_x : BitVec 8) (s : State) : Result := .next s.takeUndefined

/-- An unallocated THUMB halfword (D19), row 193 (30 R131, 60 R445). -/
def execTUndefB2 (_x : BitVec 9) (s : State) : Result := .next s.takeUndefined

/-- An unallocated THUMB halfword (D19), row 194 (30 R131, 60 R445). -/
def execTUndefB6 (_x : BitVec 9) (s : State) : Result := .next s.takeUndefined

/-- An unallocated THUMB halfword (D19), row 195 (30 R131, 60 R445). -/
def execTUndefB8 (_x : BitVec 10) (s : State) : Result := .next s.takeUndefined

/-- An unallocated THUMB halfword (D19), row 196 (30 R131, 60 R445). -/
def execTUndefBe (_x : BitVec 9) (s : State) : Result := .next s.takeUndefined

/-- An unallocated THUMB halfword (D19), row 197 (30 R131, 60 R445). -/
def execTUndefE8 (_x : BitVec 11) (s : State) : Result := .next s.takeUndefined

end Sys2Proof.Machine
end

