-- ==== Sys2Proof/Machine/Dispatch.lean ====
section
/-! DEFINITION. The meaning of every instruction: one arm per constructor of `Instr`, in the table's order. -/

namespace Sys2Proof.Machine

/-- What an instruction does. During it `pc` is the address of the instruction (00 R15). -/
def exec (i : Instr) (s : State) : Host.Outcome State Fault Refusal :=
  match i with
  | .bx c rn => Sys2Proof.Machine.execBx c rn s
  | .b c off => Sys2Proof.Machine.execB c off s
  | .bl c off => Sys2Proof.Machine.execBl c off s
  | .andImm c sf rn rd rot imm => Sys2Proof.Machine.execAndImm c sf rn rd rot imm s
  | .andShift c sf rn rd amt ty rm => Sys2Proof.Machine.execAndShift c sf rn rd amt ty rm s
  | .andReg c sf rn rd rs ty rm => Sys2Proof.Machine.execAndReg c sf rn rd rs ty rm s
  | .eorImm c sf rn rd rot imm => Sys2Proof.Machine.execEorImm c sf rn rd rot imm s
  | .eorShift c sf rn rd amt ty rm => Sys2Proof.Machine.execEorShift c sf rn rd amt ty rm s
  | .eorReg c sf rn rd rs ty rm => Sys2Proof.Machine.execEorReg c sf rn rd rs ty rm s
  | .subImm c sf rn rd rot imm => Sys2Proof.Machine.execSubImm c sf rn rd rot imm s
  | .subShift c sf rn rd amt ty rm => Sys2Proof.Machine.execSubShift c sf rn rd amt ty rm s
  | .subReg c sf rn rd rs ty rm => Sys2Proof.Machine.execSubReg c sf rn rd rs ty rm s
  | .rsbImm c sf rn rd rot imm => Sys2Proof.Machine.execRsbImm c sf rn rd rot imm s
  | .rsbShift c sf rn rd amt ty rm => Sys2Proof.Machine.execRsbShift c sf rn rd amt ty rm s
  | .rsbReg c sf rn rd rs ty rm => Sys2Proof.Machine.execRsbReg c sf rn rd rs ty rm s
  | .addImm c sf rn rd rot imm => Sys2Proof.Machine.execAddImm c sf rn rd rot imm s
  | .addShift c sf rn rd amt ty rm => Sys2Proof.Machine.execAddShift c sf rn rd amt ty rm s
  | .addReg c sf rn rd rs ty rm => Sys2Proof.Machine.execAddReg c sf rn rd rs ty rm s
  | .adcImm c sf rn rd rot imm => Sys2Proof.Machine.execAdcImm c sf rn rd rot imm s
  | .adcShift c sf rn rd amt ty rm => Sys2Proof.Machine.execAdcShift c sf rn rd amt ty rm s
  | .adcReg c sf rn rd rs ty rm => Sys2Proof.Machine.execAdcReg c sf rn rd rs ty rm s
  | .sbcImm c sf rn rd rot imm => Sys2Proof.Machine.execSbcImm c sf rn rd rot imm s
  | .sbcShift c sf rn rd amt ty rm => Sys2Proof.Machine.execSbcShift c sf rn rd amt ty rm s
  | .sbcReg c sf rn rd rs ty rm => Sys2Proof.Machine.execSbcReg c sf rn rd rs ty rm s
  | .rscImm c sf rn rd rot imm => Sys2Proof.Machine.execRscImm c sf rn rd rot imm s
  | .rscShift c sf rn rd amt ty rm => Sys2Proof.Machine.execRscShift c sf rn rd amt ty rm s
  | .rscReg c sf rn rd rs ty rm => Sys2Proof.Machine.execRscReg c sf rn rd rs ty rm s
  | .tstImm c rn rd rot imm => Sys2Proof.Machine.execTstImm c rn rd rot imm s
  | .tstShift c rn rd amt ty rm => Sys2Proof.Machine.execTstShift c rn rd amt ty rm s
  | .tstReg c rn rd rs ty rm => Sys2Proof.Machine.execTstReg c rn rd rs ty rm s
  | .teqImm c rn rd rot imm => Sys2Proof.Machine.execTeqImm c rn rd rot imm s
  | .teqShift c rn rd amt ty rm => Sys2Proof.Machine.execTeqShift c rn rd amt ty rm s
  | .teqReg c rn rd rs ty rm => Sys2Proof.Machine.execTeqReg c rn rd rs ty rm s
  | .cmpImm c rn rd rot imm => Sys2Proof.Machine.execCmpImm c rn rd rot imm s
  | .cmpShift c rn rd amt ty rm => Sys2Proof.Machine.execCmpShift c rn rd amt ty rm s
  | .cmpReg c rn rd rs ty rm => Sys2Proof.Machine.execCmpReg c rn rd rs ty rm s
  | .cmnImm c rn rd rot imm => Sys2Proof.Machine.execCmnImm c rn rd rot imm s
  | .cmnShift c rn rd amt ty rm => Sys2Proof.Machine.execCmnShift c rn rd amt ty rm s
  | .cmnReg c rn rd rs ty rm => Sys2Proof.Machine.execCmnReg c rn rd rs ty rm s
  | .orrImm c sf rn rd rot imm => Sys2Proof.Machine.execOrrImm c sf rn rd rot imm s
  | .orrShift c sf rn rd amt ty rm => Sys2Proof.Machine.execOrrShift c sf rn rd amt ty rm s
  | .orrReg c sf rn rd rs ty rm => Sys2Proof.Machine.execOrrReg c sf rn rd rs ty rm s
  | .movImm c sf rn rd rot imm => Sys2Proof.Machine.execMovImm c sf rn rd rot imm s
  | .movShift c sf rn rd amt ty rm => Sys2Proof.Machine.execMovShift c sf rn rd amt ty rm s
  | .movReg c sf rn rd rs ty rm => Sys2Proof.Machine.execMovReg c sf rn rd rs ty rm s
  | .bicImm c sf rn rd rot imm => Sys2Proof.Machine.execBicImm c sf rn rd rot imm s
  | .bicShift c sf rn rd amt ty rm => Sys2Proof.Machine.execBicShift c sf rn rd amt ty rm s
  | .bicReg c sf rn rd rs ty rm => Sys2Proof.Machine.execBicReg c sf rn rd rs ty rm s
  | .mvnImm c sf rn rd rot imm => Sys2Proof.Machine.execMvnImm c sf rn rd rot imm s
  | .mvnShift c sf rn rd amt ty rm => Sys2Proof.Machine.execMvnShift c sf rn rd amt ty rm s
  | .mvnReg c sf rn rd rs ty rm => Sys2Proof.Machine.execMvnReg c sf rn rd rs ty rm s
  | .mrs c spsr rd => Sys2Proof.Machine.execMrs c spsr rd s
  | .msrReg c spsr rm => Sys2Proof.Machine.execMsrReg c spsr rm s
  | .msrFlagsReg c spsr rm => Sys2Proof.Machine.execMsrFlagsReg c spsr rm s
  | .msrFlagsImm c spsr rot imm => Sys2Proof.Machine.execMsrFlagsImm c spsr rot imm s
  | .mul c sf rd rn rs rm => Sys2Proof.Machine.execMul c sf rd rn rs rm s
  | .mla c sf rd rn rs rm => Sys2Proof.Machine.execMla c sf rd rn rs rm s
  | .umull c sf hi lo rs rm => Sys2Proof.Machine.execUmull c sf hi lo rs rm s
  | .umlal c sf hi lo rs rm => Sys2Proof.Machine.execUmlal c sf hi lo rs rm s
  | .smull c sf hi lo rs rm => Sys2Proof.Machine.execSmull c sf hi lo rs rm s
  | .smlal c sf hi lo rs rm => Sys2Proof.Machine.execSmlal c sf hi lo rs rm s
  | .strImmPre c u w rn rd off => Sys2Proof.Machine.execStrImmPre c u w rn rd off s
  | .strImmPost c u rn rd off => Sys2Proof.Machine.execStrImmPost c u rn rd off s
  | .strtImm c u rn rd off => Sys2Proof.Machine.execStrtImm c u rn rd off s
  | .strRegPre c u w rn rd amt ty rm => Sys2Proof.Machine.execStrRegPre c u w rn rd amt ty rm s
  | .strRegPost c u rn rd amt ty rm => Sys2Proof.Machine.execStrRegPost c u rn rd amt ty rm s
  | .strtReg c u rn rd amt ty rm => Sys2Proof.Machine.execStrtReg c u rn rd amt ty rm s
  | .ldrImmPre c u w rn rd off => Sys2Proof.Machine.execLdrImmPre c u w rn rd off s
  | .ldrImmPost c u rn rd off => Sys2Proof.Machine.execLdrImmPost c u rn rd off s
  | .ldrtImm c u rn rd off => Sys2Proof.Machine.execLdrtImm c u rn rd off s
  | .ldrRegPre c u w rn rd amt ty rm => Sys2Proof.Machine.execLdrRegPre c u w rn rd amt ty rm s
  | .ldrRegPost c u rn rd amt ty rm => Sys2Proof.Machine.execLdrRegPost c u rn rd amt ty rm s
  | .ldrtReg c u rn rd amt ty rm => Sys2Proof.Machine.execLdrtReg c u rn rd amt ty rm s
  | .strbImmPre c u w rn rd off => Sys2Proof.Machine.execStrbImmPre c u w rn rd off s
  | .strbImmPost c u rn rd off => Sys2Proof.Machine.execStrbImmPost c u rn rd off s
  | .strbtImm c u rn rd off => Sys2Proof.Machine.execStrbtImm c u rn rd off s
  | .strbRegPre c u w rn rd amt ty rm => Sys2Proof.Machine.execStrbRegPre c u w rn rd amt ty rm s
  | .strbRegPost c u rn rd amt ty rm => Sys2Proof.Machine.execStrbRegPost c u rn rd amt ty rm s
  | .strbtReg c u rn rd amt ty rm => Sys2Proof.Machine.execStrbtReg c u rn rd amt ty rm s
  | .ldrbImmPre c u w rn rd off => Sys2Proof.Machine.execLdrbImmPre c u w rn rd off s
  | .ldrbImmPost c u rn rd off => Sys2Proof.Machine.execLdrbImmPost c u rn rd off s
  | .ldrbtImm c u rn rd off => Sys2Proof.Machine.execLdrbtImm c u rn rd off s
  | .ldrbRegPre c u w rn rd amt ty rm => Sys2Proof.Machine.execLdrbRegPre c u w rn rd amt ty rm s
  | .ldrbRegPost c u rn rd amt ty rm => Sys2Proof.Machine.execLdrbRegPost c u rn rd amt ty rm s
  | .ldrbtReg c u rn rd amt ty rm => Sys2Proof.Machine.execLdrbtReg c u rn rd amt ty rm s
  | .strhReg c p u w rn rd rm => Sys2Proof.Machine.execStrhReg c p u w rn rd rm s
  | .strhImm c p u w rn rd off => Sys2Proof.Machine.execStrhImm c p u w rn rd off s
  | .ldrhReg c p u w rn rd rm => Sys2Proof.Machine.execLdrhReg c p u w rn rd rm s
  | .ldrhImm c p u w rn rd off => Sys2Proof.Machine.execLdrhImm c p u w rn rd off s
  | .ldrsbReg c p u w rn rd rm => Sys2Proof.Machine.execLdrsbReg c p u w rn rd rm s
  | .ldrsbImm c p u w rn rd off => Sys2Proof.Machine.execLdrsbImm c p u w rn rd off s
  | .ldrshReg c p u w rn rd rm => Sys2Proof.Machine.execLdrshReg c p u w rn rd rm s
  | .ldrshImm c p u w rn rd off => Sys2Proof.Machine.execLdrshImm c p u w rn rd off s
  | .stm c p u sf w rn list => Sys2Proof.Machine.execStm c p u sf w rn list s
  | .ldm c p u sf w rn list => Sys2Proof.Machine.execLdm c p u sf w rn list s
  | .swp c rn rd rm => Sys2Proof.Machine.execSwp c rn rd rm s
  | .swpb c rn rd rm => Sys2Proof.Machine.execSwpb c rn rd rm s
  | .swi c comment => Sys2Proof.Machine.execSwi c comment s
  | .cdp c opc crn crd cp info crm => Sys2Proof.Machine.execCdp c opc crn crd cp info crm s
  | .stc c p u n w rn crd cp off => Sys2Proof.Machine.execStc c p u n w rn crd cp off s
  | .ldc c p u n w rn crd cp off => Sys2Proof.Machine.execLdc c p u n w rn crd cp off s
  | .mcr c opc crn rd cp info crm => Sys2Proof.Machine.execMcr c opc crn rd cp info crm s
  | .mrc c opc crn rd cp info crm => Sys2Proof.Machine.execMrc c opc crn rd cp info crm s
  | .undef c x y => Sys2Proof.Machine.execUndef c x y s
  | .tLslImm off rs rd => Sys2Proof.Machine.execTLslImm off rs rd s
  | .tLsrImm off rs rd => Sys2Proof.Machine.execTLsrImm off rs rd s
  | .tAsrImm off rs rd => Sys2Proof.Machine.execTAsrImm off rs rd s
  | .tAddReg rn rs rd => Sys2Proof.Machine.execTAddReg rn rs rd s
  | .tSubReg rn rs rd => Sys2Proof.Machine.execTSubReg rn rs rd s
  | .tAddImm3 off rs rd => Sys2Proof.Machine.execTAddImm3 off rs rd s
  | .tSubImm3 off rs rd => Sys2Proof.Machine.execTSubImm3 off rs rd s
  | .tMovImm rd off => Sys2Proof.Machine.execTMovImm rd off s
  | .tCmpImm rd off => Sys2Proof.Machine.execTCmpImm rd off s
  | .tAddImm8 rd off => Sys2Proof.Machine.execTAddImm8 rd off s
  | .tSubImm8 rd off => Sys2Proof.Machine.execTSubImm8 rd off s
  | .tAnd rs rd => Sys2Proof.Machine.execTAnd rs rd s
  | .tEor rs rd => Sys2Proof.Machine.execTEor rs rd s
  | .tLslReg rs rd => Sys2Proof.Machine.execTLslReg rs rd s
  | .tLsrReg rs rd => Sys2Proof.Machine.execTLsrReg rs rd s
  | .tAsrReg rs rd => Sys2Proof.Machine.execTAsrReg rs rd s
  | .tAdc rs rd => Sys2Proof.Machine.execTAdc rs rd s
  | .tSbc rs rd => Sys2Proof.Machine.execTSbc rs rd s
  | .tRorReg rs rd => Sys2Proof.Machine.execTRorReg rs rd s
  | .tTst rs rd => Sys2Proof.Machine.execTTst rs rd s
  | .tNeg rs rd => Sys2Proof.Machine.execTNeg rs rd s
  | .tCmp rs rd => Sys2Proof.Machine.execTCmp rs rd s
  | .tCmn rs rd => Sys2Proof.Machine.execTCmn rs rd s
  | .tOrr rs rd => Sys2Proof.Machine.execTOrr rs rd s
  | .tMul rs rd => Sys2Proof.Machine.execTMul rs rd s
  | .tBic rs rd => Sys2Proof.Machine.execTBic rs rd s
  | .tMvn rs rd => Sys2Proof.Machine.execTMvn rs rd s
  | .tAddLoHi rs rd => Sys2Proof.Machine.execTAddLoHi rs rd s
  | .tAddHiLo rs rd => Sys2Proof.Machine.execTAddHiLo rs rd s
  | .tAddHiHi rs rd => Sys2Proof.Machine.execTAddHiHi rs rd s
  | .tAddLoLo rs rd => Sys2Proof.Machine.execTAddLoLo rs rd s
  | .tCmpLoHi rs rd => Sys2Proof.Machine.execTCmpLoHi rs rd s
  | .tCmpHiLo rs rd => Sys2Proof.Machine.execTCmpHiLo rs rd s
  | .tCmpHiHi rs rd => Sys2Proof.Machine.execTCmpHiHi rs rd s
  | .tCmpLoLo rs rd => Sys2Proof.Machine.execTCmpLoLo rs rd s
  | .tMovLoHi rs rd => Sys2Proof.Machine.execTMovLoHi rs rd s
  | .tMovHiLo rs rd => Sys2Proof.Machine.execTMovHiLo rs rd s
  | .tMovHiHi rs rd => Sys2Proof.Machine.execTMovHiHi rs rd s
  | .tMovLoLo rs rd => Sys2Proof.Machine.execTMovLoLo rs rd s
  | .tBxLo rs x => Sys2Proof.Machine.execTBxLo rs x s
  | .tBxHi rs x => Sys2Proof.Machine.execTBxHi rs x s
  | .tBxH1 h2 rs x => Sys2Proof.Machine.execTBxH1 h2 rs x s
  | .tLdrPc rd imm => Sys2Proof.Machine.execTLdrPc rd imm s
  | .tStrReg ro rb rd => Sys2Proof.Machine.execTStrReg ro rb rd s
  | .tStrbReg ro rb rd => Sys2Proof.Machine.execTStrbReg ro rb rd s
  | .tLdrReg ro rb rd => Sys2Proof.Machine.execTLdrReg ro rb rd s
  | .tLdrbReg ro rb rd => Sys2Proof.Machine.execTLdrbReg ro rb rd s
  | .tStrhReg ro rb rd => Sys2Proof.Machine.execTStrhReg ro rb rd s
  | .tLdrhReg ro rb rd => Sys2Proof.Machine.execTLdrhReg ro rb rd s
  | .tLdsbReg ro rb rd => Sys2Proof.Machine.execTLdsbReg ro rb rd s
  | .tLdshReg ro rb rd => Sys2Proof.Machine.execTLdshReg ro rb rd s
  | .tStrImm off rb rd => Sys2Proof.Machine.execTStrImm off rb rd s
  | .tLdrImm off rb rd => Sys2Proof.Machine.execTLdrImm off rb rd s
  | .tStrbImm off rb rd => Sys2Proof.Machine.execTStrbImm off rb rd s
  | .tLdrbImm off rb rd => Sys2Proof.Machine.execTLdrbImm off rb rd s
  | .tStrhImm off rb rd => Sys2Proof.Machine.execTStrhImm off rb rd s
  | .tLdrhImm off rb rd => Sys2Proof.Machine.execTLdrhImm off rb rd s
  | .tStrSp rd imm => Sys2Proof.Machine.execTStrSp rd imm s
  | .tLdrSp rd imm => Sys2Proof.Machine.execTLdrSp rd imm s
  | .tAddPc rd imm => Sys2Proof.Machine.execTAddPc rd imm s
  | .tAddSp rd imm => Sys2Proof.Machine.execTAddSp rd imm s
  | .tAddSpPos imm => Sys2Proof.Machine.execTAddSpPos imm s
  | .tAddSpNeg imm => Sys2Proof.Machine.execTAddSpNeg imm s
  | .tPush list => Sys2Proof.Machine.execTPush list s
  | .tPushLr list => Sys2Proof.Machine.execTPushLr list s
  | .tPop list => Sys2Proof.Machine.execTPop list s
  | .tPopPc list => Sys2Proof.Machine.execTPopPc list s
  | .tStmia rb list => Sys2Proof.Machine.execTStmia rb list s
  | .tLdmia rb list => Sys2Proof.Machine.execTLdmia rb list s
  | .tBeq off => Sys2Proof.Machine.execTBeq off s
  | .tBne off => Sys2Proof.Machine.execTBne off s
  | .tBcs off => Sys2Proof.Machine.execTBcs off s
  | .tBcc off => Sys2Proof.Machine.execTBcc off s
  | .tBmi off => Sys2Proof.Machine.execTBmi off s
  | .tBpl off => Sys2Proof.Machine.execTBpl off s
  | .tBvs off => Sys2Proof.Machine.execTBvs off s
  | .tBvc off => Sys2Proof.Machine.execTBvc off s
  | .tBhi off => Sys2Proof.Machine.execTBhi off s
  | .tBls off => Sys2Proof.Machine.execTBls off s
  | .tBge off => Sys2Proof.Machine.execTBge off s
  | .tBlt off => Sys2Proof.Machine.execTBlt off s
  | .tBgt off => Sys2Proof.Machine.execTBgt off s
  | .tBle off => Sys2Proof.Machine.execTBle off s
  | .tUndefCond x => Sys2Proof.Machine.execTUndefCond x s
  | .tSwi comment => Sys2Proof.Machine.execTSwi comment s
  | .tB off => Sys2Proof.Machine.execTB off s
  | .tBlHigh off => Sys2Proof.Machine.execTBlHigh off s
  | .tBlLow off => Sys2Proof.Machine.execTBlLow off s
  | .tUndefB1 x => Sys2Proof.Machine.execTUndefB1 x s
  | .tUndefB2 x => Sys2Proof.Machine.execTUndefB2 x s
  | .tUndefB6 x => Sys2Proof.Machine.execTUndefB6 x s
  | .tUndefB8 x => Sys2Proof.Machine.execTUndefB8 x s
  | .tUndefBe x => Sys2Proof.Machine.execTUndefBe x s
  | .tUndefE8 x => Sys2Proof.Machine.execTUndefE8 x s

end Sys2Proof.Machine
end

