-- ==== Sys2Proof/Decode.lean ====
section
/-! DEFINITION. The decoder of the two instruction sets, total on every word, rejecting by name, in the order of the
rules 30 R103 (ARM) and R121 (THUMB); after it the encoder, written from the encoding tables of the instruction
files; and the reading of one opcode-table word as a program in memory would present it. -/

namespace Sys2Proof

/-- The sets of ARM words that no format allocates (30 R112), and the signed store (44 R258, U30). -/
inductive Unallocated where
  | u5a | u5b | u5c | u5d | u5e | u5f | signedStore
  deriving DecidableEq, Repr

/-- Why a word is no instruction. -/
inductive DecodeError where
  /-- Condition field 1111: "is reserved, and must not be used" (30 R105, U4), whatever the rest of the word. -/
  | reservedCondition
  /-- An unallocated ARM word, with its condition: it is skipped where the condition fails (30 R112, U5). -/
  | unallocated (c : Cond) (set : Unallocated)
  deriving DecidableEq, Repr

/-- What a decoder answers. -/
inductive Decoded where
  | ok (i : Instr)
  | error (e : DecodeError)
  deriving DecidableEq, Repr

/-- The instruction, where there is one. -/
def Decoded.toOption : Decoded → Option Instr
  | .ok i => some i
  | .error _ => none

/-- Bit `i` of a word. -/
def bitAt {n : Nat} (w : BitVec n) (i : Nat) : Bool := w.getLsbD i

/-- The condition a field names (30 R104). -/
def Cond.ofBits (b : BitVec 4) : Option Cond :=
  if b = 0#4 then some .eq
  else if b = 1#4 then some .ne
  else if b = 2#4 then some .cs
  else if b = 3#4 then some .cc
  else if b = 4#4 then some .mi
  else if b = 5#4 then some .pl
  else if b = 6#4 then some .vs
  else if b = 7#4 then some .vc
  else if b = 8#4 then some .hi
  else if b = 9#4 then some .ls
  else if b = 10#4 then some .ge
  else if b = 11#4 then some .lt
  else if b = 12#4 then some .gt
  else if b = 13#4 then some .le
  else if b = 14#4 then some .al
  else none

/-- The field of a condition (30 R104). -/
def Cond.bits : Cond → BitVec 4
  | .eq => 0#4
  | .ne => 1#4
  | .cs => 2#4
  | .cc => 3#4
  | .mi => 4#4
  | .pl => 5#4
  | .vs => 6#4
  | .vc => 7#4
  | .hi => 8#4
  | .ls => 9#4
  | .ge => 10#4
  | .lt => 11#4
  | .gt => 12#4
  | .le => 13#4
  | .al => 14#4

/-- The shift type of bits 6:5 (41 R171). -/
def ShiftType.ofBits (b : BitVec 2) : ShiftType :=
  if b = 0#2 then .lsl else if b = 1#2 then .lsr else if b = 2#2 then .asr else .ror

/-- The field of a shift type (41 R171). -/
def ShiftType.bits : ShiftType → BitVec 2
  | .lsl => 0#2
  | .lsr => 1#2
  | .asr => 2#2
  | .ror => 3#2

/-- The result-writing operation of an OpCode field that is none of the four tests (41 R179). -/
def AluOp.ofBits (b : BitVec 4) : AluOp :=
  if b = 0#4 then .and
  else if b = 1#4 then .eor
  else if b = 2#4 then .sub
  else if b = 3#4 then .rsb
  else if b = 4#4 then .add
  else if b = 5#4 then .adc
  else if b = 6#4 then .sbc
  else if b = 7#4 then .rsc
  else if b = 12#4 then .orr
  else if b = 13#4 then .mov
  else if b = 14#4 then .bic
  else .mvn

/-- The test operation of the low two bits of the OpCode field (41 R179). -/
def TestOp.ofBits (b : BitVec 2) : TestOp :=
  if b = 0#2 then .tst else if b = 1#2 then .teq else if b = 2#2 then .cmp else .cmn

/-- The long multiply of the U and A bits (43 R227). -/
def LongOp.ofBits (b : BitVec 2) : LongOp :=
  if b = 0#2 then .umull else if b = 1#2 then .umlal else if b = 2#2 then .smull else .smlal

/-- The transfer of the B and L bits (44 R235). -/
def SdtOp.ofBits (b : BitVec 2) : SdtOp :=
  if b = 0#2 then .str else if b = 1#2 then .ldr else if b = 2#2 then .strb else .ldrb

/-- The transfer of the S, H and L bits, where S = 1 and L = 0 do not meet (44 R251, R258). -/
def HdtOp.ofBits (sh : BitVec 2) (l : Bool) : HdtOp :=
  if l = false then .strh else if sh = 1#2 then .ldrh else if sh = 2#2 then .ldrsb else .ldrsh

/-- The operation of THUMB Format 4 (47 R330). -/
def ThumbAluOp.ofBits (b : BitVec 4) : ThumbAluOp :=
  if b = 0#4 then .and
  else if b = 1#4 then .eor
  else if b = 2#4 then .lsl
  else if b = 3#4 then .lsr
  else if b = 4#4 then .asr
  else if b = 5#4 then .adc
  else if b = 6#4 then .sbc
  else if b = 7#4 then .ror
  else if b = 8#4 then .tst
  else if b = 9#4 then .neg
  else if b = 10#4 then .cmp
  else if b = 11#4 then .cmn
  else if b = 12#4 then .orr
  else if b = 13#4 then .mul
  else if b = 14#4 then .bic
  else .mvn

/-- The condition of THUMB Format 16, for Cond below 1110 (49 R411). -/
def ThumbCond.ofBits (b : BitVec 4) : ThumbCond :=
  if b = 0#4 then .eq
  else if b = 1#4 then .ne
  else if b = 2#4 then .cs
  else if b = 3#4 then .cc
  else if b = 4#4 then .mi
  else if b = 5#4 then .pl
  else if b = 6#4 then .vs
  else if b = 7#4 then .vc
  else if b = 8#4 then .hi
  else if b = 9#4 then .ls
  else if b = 10#4 then .ge
  else if b = 11#4 then .lt
  else if b = 12#4 then .gt
  else .le

/-- Data processing with an immediate operand, its condition read (41 R170, R171). -/
def decodeDpImm (c : Cond) (w : BitVec 32) : Instr :=
  if w.extractLsb' 23 2 = 2#2 then
    .testImm (TestOp.ofBits (w.extractLsb' 21 2)) c (w.extractLsb' 16 4) (w.extractLsb' 12 4) (w.extractLsb' 8 4)
      (w.extractLsb' 0 8)
  else
    .aluImm (AluOp.ofBits (w.extractLsb' 21 4)) c (bitAt w 20) (w.extractLsb' 16 4) (w.extractLsb' 12 4)
      (w.extractLsb' 8 4) (w.extractLsb' 0 8)

/-- Data processing with a register operand, shifted by an immediate or by a register amount (41 R170, R171). -/
def decodeDpReg (c : Cond) (w : BitVec 32) : Instr :=
  if bitAt w 4 = true then
    if w.extractLsb' 23 2 = 2#2 then
      .testReg (TestOp.ofBits (w.extractLsb' 21 2)) c (w.extractLsb' 16 4) (w.extractLsb' 12 4) (w.extractLsb' 8 4)
        (ShiftType.ofBits (w.extractLsb' 5 2)) (w.extractLsb' 0 4)
    else
      .aluReg (AluOp.ofBits (w.extractLsb' 21 4)) c (bitAt w 20) (w.extractLsb' 16 4) (w.extractLsb' 12 4)
        (w.extractLsb' 8 4) (ShiftType.ofBits (w.extractLsb' 5 2)) (w.extractLsb' 0 4)
  else if w.extractLsb' 23 2 = 2#2 then
    .testShift (TestOp.ofBits (w.extractLsb' 21 2)) c (w.extractLsb' 16 4) (w.extractLsb' 12 4) (w.extractLsb' 7 5)
      (ShiftType.ofBits (w.extractLsb' 5 2)) (w.extractLsb' 0 4)
  else
    .aluShift (AluOp.ofBits (w.extractLsb' 21 4)) c (bitAt w 20) (w.extractLsb' 16 4) (w.extractLsb' 12 4)
      (w.extractLsb' 7 5) (ShiftType.ofBits (w.extractLsb' 5 2)) (w.extractLsb' 0 4)

/-- The words with bits 7:4 = 1001 under bits 27:25 = 000: multiplies and swap (30 R103, R110, R112). -/
def decodeMultiply (c : Cond) (w : BitVec 32) : Decoded :=
  if w.extractLsb' 22 3 = 0#3 then
    if bitAt w 21 = true then
      .ok (.mla c (bitAt w 20) (w.extractLsb' 16 4) (w.extractLsb' 12 4) (w.extractLsb' 8 4) (w.extractLsb' 0 4))
    else
      .ok (.mul c (bitAt w 20) (w.extractLsb' 16 4) (w.extractLsb' 12 4) (w.extractLsb' 8 4) (w.extractLsb' 0 4))
  else if w.extractLsb' 23 2 = 1#2 then
    .ok (.mulLong (LongOp.ofBits (w.extractLsb' 21 2)) c (bitAt w 20) (w.extractLsb' 16 4) (w.extractLsb' 12 4)
      (w.extractLsb' 8 4) (w.extractLsb' 0 4))
  else if w.extractLsb' 23 2 = 2#2 then
    if w.extractLsb' 20 2 = 0#2 ∧ w.extractLsb' 8 4 = 0#4 then
      if bitAt w 22 = true then .ok (.swpb c (w.extractLsb' 16 4) (w.extractLsb' 12 4) (w.extractLsb' 0 4))
      else .ok (.swp c (w.extractLsb' 16 4) (w.extractLsb' 12 4) (w.extractLsb' 0 4))
    else .error (.unallocated c .u5a)
  else if w.extractLsb' 23 2 = 3#2 then .error (.unallocated c .u5b)
  else .error (.unallocated c .u5f)

/-- The words with bits 7 and 4 set and bits 6:5 not 00: halfword and signed transfers (30 R103, 44 R251, R252). -/
def decodeHalfword (c : Cond) (w : BitVec 32) : Decoded :=
  if bitAt w 22 = false ∧ w.extractLsb' 8 4 ≠ 0#4 then .error (.unallocated c .u5c)
  else if bitAt w 20 = false ∧ bitAt w 6 = true then .error (.unallocated c .signedStore)
  else if bitAt w 22 = true then
    .ok (.hdtImm (HdtOp.ofBits (w.extractLsb' 5 2) (bitAt w 20)) c (bitAt w 24) (bitAt w 23) (bitAt w 21)
      (w.extractLsb' 16 4) (w.extractLsb' 12 4) (w.extractLsb' 8 4 ++ w.extractLsb' 0 4))
  else
    .ok (.hdtReg (HdtOp.ofBits (w.extractLsb' 5 2) (bitAt w 20)) c (bitAt w 24) (bitAt w 23) (bitAt w 21)
      (w.extractLsb' 16 4) (w.extractLsb' 12 4) (w.extractLsb' 0 4))

/-- The test opcodes with S = 0 and a register operand: MRS, MSR or unallocated (42 R210, 30 R112). -/
def decodePsrReg (c : Cond) (w : BitVec 32) : Decoded :=
  if w.extractLsb' 16 6 = 0x0F#6 ∧ w.extractLsb' 0 12 = 0#12 then .ok (.mrs c (bitAt w 22) (w.extractLsb' 12 4))
  else if w.extractLsb' 12 10 = 0x29F#10 ∧ w.extractLsb' 4 8 = 0#8 then
    .ok (.msrReg c (bitAt w 22) (w.extractLsb' 0 4))
  else if w.extractLsb' 12 10 = 0x28F#10 ∧ w.extractLsb' 4 8 = 0#8 then
    .ok (.msrFlagsReg c (bitAt w 22) (w.extractLsb' 0 4))
  else .error (.unallocated c .u5d)

/-- Bits 27:25 = 000 (30 R103, R110). -/
def decodeArm000 (c : Cond) (w : BitVec 32) : Decoded :=
  if w.extractLsb' 4 24 = 0x12FFF1#24 then .ok (.bx c (w.extractLsb' 0 4))
  else if w.extractLsb' 4 4 = 9#4 then decodeMultiply c w
  else if bitAt w 7 = true ∧ bitAt w 4 = true then decodeHalfword c w
  else if w.extractLsb' 23 2 = 2#2 ∧ bitAt w 20 = false then decodePsrReg c w
  else .ok (decodeDpReg c w)

/-- Bits 27:25 = 001 (30 R103). -/
def decodeArm001 (c : Cond) (w : BitVec 32) : Decoded :=
  if w.extractLsb' 23 2 = 2#2 ∧ bitAt w 20 = false then
    if w.extractLsb' 12 10 = 0x28F#10 then
      .ok (.msrFlagsImm c (bitAt w 22) (w.extractLsb' 8 4) (w.extractLsb' 0 8))
    else .error (.unallocated c .u5e)
  else .ok (decodeDpImm c w)

/-- The B and L bits of a single data transfer (44 R235). -/
def sdtBits (w : BitVec 32) : SdtOp := SdtOp.ofBits (w.extractLsb' 22 1 ++ w.extractLsb' 20 1)

/-- Bits 27:25 = 010: single data transfer, immediate offset (44 R235). -/
def decodeSdtImm (c : Cond) (w : BitVec 32) : Instr :=
  if bitAt w 24 = true then
    .sdtImmPre (sdtBits w) c (bitAt w 23) (bitAt w 21) (w.extractLsb' 16 4) (w.extractLsb' 12 4) (w.extractLsb' 0 12)
  else if bitAt w 21 = true then
    .sdtTImm (sdtBits w) c (bitAt w 23) (w.extractLsb' 16 4) (w.extractLsb' 12 4) (w.extractLsb' 0 12)
  else .sdtImmPost (sdtBits w) c (bitAt w 23) (w.extractLsb' 16 4) (w.extractLsb' 12 4) (w.extractLsb' 0 12)

/-- Bits 27:25 = 011: single data transfer, register offset, or the Undefined instruction (44 R235, 46 R310). -/
def decodeSdtReg (c : Cond) (w : BitVec 32) : Instr :=
  if bitAt w 4 = true then .undef c (w.extractLsb' 5 20) (w.extractLsb' 0 4)
  else if bitAt w 24 = true then
    .sdtRegPre (sdtBits w) c (bitAt w 23) (bitAt w 21) (w.extractLsb' 16 4) (w.extractLsb' 12 4) (w.extractLsb' 7 5)
      (ShiftType.ofBits (w.extractLsb' 5 2)) (w.extractLsb' 0 4)
  else if bitAt w 21 = true then
    .sdtTReg (sdtBits w) c (bitAt w 23) (w.extractLsb' 16 4) (w.extractLsb' 12 4) (w.extractLsb' 7 5)
      (ShiftType.ofBits (w.extractLsb' 5 2)) (w.extractLsb' 0 4)
  else
    .sdtRegPost (sdtBits w) c (bitAt w 23) (w.extractLsb' 16 4) (w.extractLsb' 12 4) (w.extractLsb' 7 5)
      (ShiftType.ofBits (w.extractLsb' 5 2)) (w.extractLsb' 0 4)

/-- Bits 27:25 = 111: SWI, CDP, MRC, MCR (30 R103, 46 R290, R298, R305). -/
def decodeArm111 (c : Cond) (w : BitVec 32) : Instr :=
  if bitAt w 24 = true then .swi c (w.extractLsb' 0 24)
  else if bitAt w 4 = false then
    .cdp c (w.extractLsb' 20 4) (w.extractLsb' 16 4) (w.extractLsb' 12 4) (w.extractLsb' 8 4) (w.extractLsb' 5 3)
      (w.extractLsb' 0 4)
  else if bitAt w 20 = true then
    .mrc c (w.extractLsb' 21 3) (w.extractLsb' 16 4) (w.extractLsb' 12 4) (w.extractLsb' 8 4) (w.extractLsb' 5 3)
      (w.extractLsb' 0 4)
  else
    .mcr c (w.extractLsb' 21 3) (w.extractLsb' 16 4) (w.extractLsb' 12 4) (w.extractLsb' 8 4) (w.extractLsb' 5 3)
      (w.extractLsb' 0 4)

/-- The ARM decoder below the condition field, in the order of 30 R103. -/
def decodeArmBody (c : Cond) (w : BitVec 32) : Decoded :=
  if w.extractLsb' 25 3 = 0#3 then decodeArm000 c w
  else if w.extractLsb' 25 3 = 1#3 then decodeArm001 c w
  else if w.extractLsb' 25 3 = 2#3 then .ok (decodeSdtImm c w)
  else if w.extractLsb' 25 3 = 3#3 then .ok (decodeSdtReg c w)
  else if w.extractLsb' 25 3 = 4#3 then
    if bitAt w 20 = true then
      .ok (.ldm c (bitAt w 24) (bitAt w 23) (bitAt w 22) (bitAt w 21) (w.extractLsb' 16 4) (w.extractLsb' 0 16))
    else
      .ok (.stm c (bitAt w 24) (bitAt w 23) (bitAt w 22) (bitAt w 21) (w.extractLsb' 16 4) (w.extractLsb' 0 16))
  else if w.extractLsb' 25 3 = 5#3 then
    if bitAt w 24 = true then .ok (.bl c (w.extractLsb' 0 24)) else .ok (.b c (w.extractLsb' 0 24))
  else if w.extractLsb' 25 3 = 6#3 then
    if bitAt w 20 = true then
      .ok (.ldc c (bitAt w 24) (bitAt w 23) (bitAt w 22) (bitAt w 21) (w.extractLsb' 16 4) (w.extractLsb' 12 4)
        (w.extractLsb' 8 4) (w.extractLsb' 0 8))
    else
      .ok (.stc c (bitAt w 24) (bitAt w 23) (bitAt w 22) (bitAt w 21) (w.extractLsb' 16 4) (w.extractLsb' 12 4)
        (w.extractLsb' 8 4) (w.extractLsb' 0 8))
  else .ok (decodeArm111 c w)

/-- The ARM decoder (30 R103 to R105). -/
def decodeArm (w : BitVec 32) : Decoded :=
  match Cond.ofBits (w.extractLsb' 28 4) with
  | none => .error .reservedCondition
  | some c => decodeArmBody c w

/-- Format 5 (47 R347 to R353). -/
def decodeThumbHi (h : BitVec 16) : Instr :=
  let rs := h.extractLsb' 3 3
  let rd := h.extractLsb' 0 3
  if h.extractLsb' 8 2 = 0#2 then
    if h.extractLsb' 6 2 = 0#2 then .tAddLoLo rs rd
    else if h.extractLsb' 6 2 = 1#2 then .tAddLoHi rs rd
    else if h.extractLsb' 6 2 = 2#2 then .tAddHiLo rs rd
    else .tAddHiHi rs rd
  else if h.extractLsb' 8 2 = 1#2 then
    if h.extractLsb' 6 2 = 0#2 then .tCmpLoLo rs rd
    else if h.extractLsb' 6 2 = 1#2 then .tCmpLoHi rs rd
    else if h.extractLsb' 6 2 = 2#2 then .tCmpHiLo rs rd
    else .tCmpHiHi rs rd
  else if h.extractLsb' 8 2 = 2#2 then
    if h.extractLsb' 6 2 = 0#2 then .tMovLoLo rs rd
    else if h.extractLsb' 6 2 = 1#2 then .tMovLoHi rs rd
    else if h.extractLsb' 6 2 = 2#2 then .tMovHiLo rs rd
    else .tMovHiHi rs rd
  else if bitAt h 7 = true then .tBxH1 (bitAt h 6) rs rd
  else if bitAt h 6 = true then .tBxHi rs rd
  else .tBxLo rs rd

/-- Formats 1 and 2 (47 R316, R320). -/
def decodeThumb000 (h : BitVec 16) : Instr :=
  if h.extractLsb' 11 2 = 0#2 then .tLslImm (h.extractLsb' 6 5) (h.extractLsb' 3 3) (h.extractLsb' 0 3)
  else if h.extractLsb' 11 2 = 1#2 then .tLsrImm (h.extractLsb' 6 5) (h.extractLsb' 3 3) (h.extractLsb' 0 3)
  else if h.extractLsb' 11 2 = 2#2 then .tAsrImm (h.extractLsb' 6 5) (h.extractLsb' 3 3) (h.extractLsb' 0 3)
  else if h.extractLsb' 9 2 = 0#2 then .tAddReg (h.extractLsb' 6 3) (h.extractLsb' 3 3) (h.extractLsb' 0 3)
  else if h.extractLsb' 9 2 = 1#2 then .tSubReg (h.extractLsb' 6 3) (h.extractLsb' 3 3) (h.extractLsb' 0 3)
  else if h.extractLsb' 9 2 = 2#2 then .tAddImm3 (h.extractLsb' 6 3) (h.extractLsb' 3 3) (h.extractLsb' 0 3)
  else .tSubImm3 (h.extractLsb' 6 3) (h.extractLsb' 3 3) (h.extractLsb' 0 3)

/-- Format 3 (47 R325). -/
def decodeThumb001 (h : BitVec 16) : Instr :=
  if h.extractLsb' 11 2 = 0#2 then .tMovImm (h.extractLsb' 8 3) (h.extractLsb' 0 8)
  else if h.extractLsb' 11 2 = 1#2 then .tCmpImm (h.extractLsb' 8 3) (h.extractLsb' 0 8)
  else if h.extractLsb' 11 2 = 2#2 then .tAddImm8 (h.extractLsb' 8 3) (h.extractLsb' 0 8)
  else .tSubImm8 (h.extractLsb' 8 3) (h.extractLsb' 0 8)

/-- Formats 7 and 8, by the bits 11:9 (48 R373, R378). -/
def decodeThumbRegOffset (h : BitVec 16) : Instr :=
  let ro := h.extractLsb' 6 3
  let rb := h.extractLsb' 3 3
  let rd := h.extractLsb' 0 3
  if h.extractLsb' 9 3 = 0#3 then .tStrReg ro rb rd
  else if h.extractLsb' 9 3 = 1#3 then .tStrhReg ro rb rd
  else if h.extractLsb' 9 3 = 2#3 then .tStrbReg ro rb rd
  else if h.extractLsb' 9 3 = 3#3 then .tLdsbReg ro rb rd
  else if h.extractLsb' 9 3 = 4#3 then .tLdrReg ro rb rd
  else if h.extractLsb' 9 3 = 5#3 then .tLdrhReg ro rb rd
  else if h.extractLsb' 9 3 = 6#3 then .tLdrbReg ro rb rd
  else .tLdshReg ro rb rd

/-- Formats 4 to 8 (30 R121). -/
def decodeThumb010 (h : BitVec 16) : Instr :=
  if h.extractLsb' 10 3 = 0#3 then
    .tAlu (ThumbAluOp.ofBits (h.extractLsb' 6 4)) (h.extractLsb' 3 3) (h.extractLsb' 0 3)
  else if h.extractLsb' 10 3 = 1#3 then decodeThumbHi h
  else if h.extractLsb' 11 2 = 1#2 then .tLdrPc (h.extractLsb' 8 3) (h.extractLsb' 0 8)
  else decodeThumbRegOffset h

/-- Format 9 (48 R383). -/
def decodeThumb011 (h : BitVec 16) : Instr :=
  if h.extractLsb' 11 2 = 0#2 then .tStrImm (h.extractLsb' 6 5) (h.extractLsb' 3 3) (h.extractLsb' 0 3)
  else if h.extractLsb' 11 2 = 1#2 then .tLdrImm (h.extractLsb' 6 5) (h.extractLsb' 3 3) (h.extractLsb' 0 3)
  else if h.extractLsb' 11 2 = 2#2 then .tStrbImm (h.extractLsb' 6 5) (h.extractLsb' 3 3) (h.extractLsb' 0 3)
  else .tLdrbImm (h.extractLsb' 6 5) (h.extractLsb' 3 3) (h.extractLsb' 0 3)

/-- Formats 10 and 11 (48 R388, R390). -/
def decodeThumb100 (h : BitVec 16) : Instr :=
  if h.extractLsb' 11 2 = 0#2 then .tStrhImm (h.extractLsb' 6 5) (h.extractLsb' 3 3) (h.extractLsb' 0 3)
  else if h.extractLsb' 11 2 = 1#2 then .tLdrhImm (h.extractLsb' 6 5) (h.extractLsb' 3 3) (h.extractLsb' 0 3)
  else if h.extractLsb' 11 2 = 2#2 then .tStrSp (h.extractLsb' 8 3) (h.extractLsb' 0 8)
  else .tLdrSp (h.extractLsb' 8 3) (h.extractLsb' 0 8)

/-- Formats 12, 13, 14 and the unallocated set T1 (30 R121, R131). -/
def decodeThumb101 (h : BitVec 16) : Instr :=
  if h.extractLsb' 11 2 = 0#2 then .tAddPc (h.extractLsb' 8 3) (h.extractLsb' 0 8)
  else if h.extractLsb' 11 2 = 1#2 then .tAddSp (h.extractLsb' 8 3) (h.extractLsb' 0 8)
  else if h.extractLsb' 7 5 = 0#5 then .tAddSpPos (h.extractLsb' 0 7)
  else if h.extractLsb' 7 5 = 1#5 then .tAddSpNeg (h.extractLsb' 0 7)
  else if h.extractLsb' 8 4 = 4#4 then .tPush (h.extractLsb' 0 8)
  else if h.extractLsb' 8 4 = 5#4 then .tPushLr (h.extractLsb' 0 8)
  else if h.extractLsb' 8 4 = 12#4 then .tPop (h.extractLsb' 0 8)
  else if h.extractLsb' 8 4 = 13#4 then .tPopPc (h.extractLsb' 0 8)
  else if h.extractLsb' 8 4 = 1#4 then .tUndefB1 (h.extractLsb' 0 8)
  else if h.extractLsb' 9 3 = 1#3 then .tUndefB2 (h.extractLsb' 0 9)
  else if h.extractLsb' 9 3 = 3#3 then .tUndefB6 (h.extractLsb' 0 9)
  else if h.extractLsb' 10 2 = 2#2 then .tUndefB8 (h.extractLsb' 0 10)
  else .tUndefBe (h.extractLsb' 0 9)

/-- Formats 15, 16, 17 and the unallocated set T3 (30 R121, R131). -/
def decodeThumb110 (h : BitVec 16) : Instr :=
  if h.extractLsb' 11 2 = 0#2 then .tStmia (h.extractLsb' 8 3) (h.extractLsb' 0 8)
  else if h.extractLsb' 11 2 = 1#2 then .tLdmia (h.extractLsb' 8 3) (h.extractLsb' 0 8)
  else if h.extractLsb' 8 4 = 15#4 then .tSwi (h.extractLsb' 0 8)
  else if h.extractLsb' 8 4 = 14#4 then .tUndefCond (h.extractLsb' 0 8)
  else .tBcond (ThumbCond.ofBits (h.extractLsb' 8 4)) (h.extractLsb' 0 8)

/-- Formats 18, 19 and the unallocated set T2 (30 R121, R131). -/
def decodeThumb111 (h : BitVec 16) : Instr :=
  if h.extractLsb' 11 2 = 0#2 then .tB (h.extractLsb' 0 11)
  else if h.extractLsb' 11 2 = 1#2 then .tUndefE8 (h.extractLsb' 0 11)
  else if h.extractLsb' 11 2 = 2#2 then .tBlHigh (h.extractLsb' 0 11)
  else .tBlLow (h.extractLsb' 0 11)

/-- The THUMB decoder (30 R121): every halfword has a row. -/
def decodeThumb (h : BitVec 16) : Decoded :=
  .ok (if h.extractLsb' 13 3 = 0#3 then decodeThumb000 h
    else if h.extractLsb' 13 3 = 1#3 then decodeThumb001 h
    else if h.extractLsb' 13 3 = 2#3 then decodeThumb010 h
    else if h.extractLsb' 13 3 = 3#3 then decodeThumb011 h
    else if h.extractLsb' 13 3 = 4#3 then decodeThumb100 h
    else if h.extractLsb' 13 3 = 5#3 then decodeThumb101 h
    else if h.extractLsb' 13 3 = 6#3 then decodeThumb110 h
    else decodeThumb111 h)

/-- The words of an instruction: one ARM word or one THUMB halfword (30 R100). -/
inductive Code where
  | arm (w : BitVec 32)
  | thumb (h : BitVec 16)
  deriving DecidableEq, Repr

/-- The decoder the T bit selects (30 R100). -/
def decode : Code → Decoded
  | .arm w => decodeArm w
  | .thumb h => decodeThumb h

/-- The encoder: the fields of each row of the encoding tables, the high bits first. -/
def encode : Instr → Code
  | .bx c rn =>
    .arm (c.bits ++ (0b000100101111111111110001#24 ++ rn))
  | .b c off =>
    .arm (c.bits ++ (0b1010#4 ++ off))
  | .bl c off =>
    .arm (c.bits ++ (0b1011#4 ++ off))
  | .andImm c s rn rd rot imm =>
    .arm (c.bits ++ (0b0010000#7 ++ (BitVec.ofBool s ++ (rn ++ (rd ++ (rot ++ imm))))))
  | .andShift c s rn rd amt ty rm =>
    .arm (c.bits ++ (0b0000000#7 ++ (BitVec.ofBool s ++ (rn ++ (rd ++ (amt ++ (ty.bits ++ (0b0#1 ++ rm))))))))
  | .andReg c s rn rd rs ty rm =>
    .arm (c.bits ++ (0b0000000#7 ++ (BitVec.ofBool s ++ (rn ++ (rd ++ (rs ++ (0b0#1 ++ (ty.bits ++ (0b1#1 ++ rm)))))))))
  | .eorImm c s rn rd rot imm =>
    .arm (c.bits ++ (0b0010001#7 ++ (BitVec.ofBool s ++ (rn ++ (rd ++ (rot ++ imm))))))
  | .eorShift c s rn rd amt ty rm =>
    .arm (c.bits ++ (0b0000001#7 ++ (BitVec.ofBool s ++ (rn ++ (rd ++ (amt ++ (ty.bits ++ (0b0#1 ++ rm))))))))
  | .eorReg c s rn rd rs ty rm =>
    .arm (c.bits ++ (0b0000001#7 ++ (BitVec.ofBool s ++ (rn ++ (rd ++ (rs ++ (0b0#1 ++ (ty.bits ++ (0b1#1 ++ rm)))))))))
  | .subImm c s rn rd rot imm =>
    .arm (c.bits ++ (0b0010010#7 ++ (BitVec.ofBool s ++ (rn ++ (rd ++ (rot ++ imm))))))
  | .subShift c s rn rd amt ty rm =>
    .arm (c.bits ++ (0b0000010#7 ++ (BitVec.ofBool s ++ (rn ++ (rd ++ (amt ++ (ty.bits ++ (0b0#1 ++ rm))))))))
  | .subReg c s rn rd rs ty rm =>
    .arm (c.bits ++ (0b0000010#7 ++ (BitVec.ofBool s ++ (rn ++ (rd ++ (rs ++ (0b0#1 ++ (ty.bits ++ (0b1#1 ++ rm)))))))))
  | .rsbImm c s rn rd rot imm =>
    .arm (c.bits ++ (0b0010011#7 ++ (BitVec.ofBool s ++ (rn ++ (rd ++ (rot ++ imm))))))
  | .rsbShift c s rn rd amt ty rm =>
    .arm (c.bits ++ (0b0000011#7 ++ (BitVec.ofBool s ++ (rn ++ (rd ++ (amt ++ (ty.bits ++ (0b0#1 ++ rm))))))))
  | .rsbReg c s rn rd rs ty rm =>
    .arm (c.bits ++ (0b0000011#7 ++ (BitVec.ofBool s ++ (rn ++ (rd ++ (rs ++ (0b0#1 ++ (ty.bits ++ (0b1#1 ++ rm)))))))))
  | .addImm c s rn rd rot imm =>
    .arm (c.bits ++ (0b0010100#7 ++ (BitVec.ofBool s ++ (rn ++ (rd ++ (rot ++ imm))))))
  | .addShift c s rn rd amt ty rm =>
    .arm (c.bits ++ (0b0000100#7 ++ (BitVec.ofBool s ++ (rn ++ (rd ++ (amt ++ (ty.bits ++ (0b0#1 ++ rm))))))))
  | .addReg c s rn rd rs ty rm =>
    .arm (c.bits ++ (0b0000100#7 ++ (BitVec.ofBool s ++ (rn ++ (rd ++ (rs ++ (0b0#1 ++ (ty.bits ++ (0b1#1 ++ rm)))))))))
  | .adcImm c s rn rd rot imm =>
    .arm (c.bits ++ (0b0010101#7 ++ (BitVec.ofBool s ++ (rn ++ (rd ++ (rot ++ imm))))))
  | .adcShift c s rn rd amt ty rm =>
    .arm (c.bits ++ (0b0000101#7 ++ (BitVec.ofBool s ++ (rn ++ (rd ++ (amt ++ (ty.bits ++ (0b0#1 ++ rm))))))))
  | .adcReg c s rn rd rs ty rm =>
    .arm (c.bits ++ (0b0000101#7 ++ (BitVec.ofBool s ++ (rn ++ (rd ++ (rs ++ (0b0#1 ++ (ty.bits ++ (0b1#1 ++ rm)))))))))
  | .sbcImm c s rn rd rot imm =>
    .arm (c.bits ++ (0b0010110#7 ++ (BitVec.ofBool s ++ (rn ++ (rd ++ (rot ++ imm))))))
  | .sbcShift c s rn rd amt ty rm =>
    .arm (c.bits ++ (0b0000110#7 ++ (BitVec.ofBool s ++ (rn ++ (rd ++ (amt ++ (ty.bits ++ (0b0#1 ++ rm))))))))
  | .sbcReg c s rn rd rs ty rm =>
    .arm (c.bits ++ (0b0000110#7 ++ (BitVec.ofBool s ++ (rn ++ (rd ++ (rs ++ (0b0#1 ++ (ty.bits ++ (0b1#1 ++ rm)))))))))
  | .rscImm c s rn rd rot imm =>
    .arm (c.bits ++ (0b0010111#7 ++ (BitVec.ofBool s ++ (rn ++ (rd ++ (rot ++ imm))))))
  | .rscShift c s rn rd amt ty rm =>
    .arm (c.bits ++ (0b0000111#7 ++ (BitVec.ofBool s ++ (rn ++ (rd ++ (amt ++ (ty.bits ++ (0b0#1 ++ rm))))))))
  | .rscReg c s rn rd rs ty rm =>
    .arm (c.bits ++ (0b0000111#7 ++ (BitVec.ofBool s ++ (rn ++ (rd ++ (rs ++ (0b0#1 ++ (ty.bits ++ (0b1#1 ++ rm)))))))))
  | .tstImm c rn rd rot imm =>
    .arm (c.bits ++ (0b00110001#8 ++ (rn ++ (rd ++ (rot ++ imm)))))
  | .tstShift c rn rd amt ty rm =>
    .arm (c.bits ++ (0b00010001#8 ++ (rn ++ (rd ++ (amt ++ (ty.bits ++ (0b0#1 ++ rm)))))))
  | .tstReg c rn rd rs ty rm =>
    .arm (c.bits ++ (0b00010001#8 ++ (rn ++ (rd ++ (rs ++ (0b0#1 ++ (ty.bits ++ (0b1#1 ++ rm))))))))
  | .teqImm c rn rd rot imm =>
    .arm (c.bits ++ (0b00110011#8 ++ (rn ++ (rd ++ (rot ++ imm)))))
  | .teqShift c rn rd amt ty rm =>
    .arm (c.bits ++ (0b00010011#8 ++ (rn ++ (rd ++ (amt ++ (ty.bits ++ (0b0#1 ++ rm)))))))
  | .teqReg c rn rd rs ty rm =>
    .arm (c.bits ++ (0b00010011#8 ++ (rn ++ (rd ++ (rs ++ (0b0#1 ++ (ty.bits ++ (0b1#1 ++ rm))))))))
  | .cmpImm c rn rd rot imm =>
    .arm (c.bits ++ (0b00110101#8 ++ (rn ++ (rd ++ (rot ++ imm)))))
  | .cmpShift c rn rd amt ty rm =>
    .arm (c.bits ++ (0b00010101#8 ++ (rn ++ (rd ++ (amt ++ (ty.bits ++ (0b0#1 ++ rm)))))))
  | .cmpReg c rn rd rs ty rm =>
    .arm (c.bits ++ (0b00010101#8 ++ (rn ++ (rd ++ (rs ++ (0b0#1 ++ (ty.bits ++ (0b1#1 ++ rm))))))))
  | .cmnImm c rn rd rot imm =>
    .arm (c.bits ++ (0b00110111#8 ++ (rn ++ (rd ++ (rot ++ imm)))))
  | .cmnShift c rn rd amt ty rm =>
    .arm (c.bits ++ (0b00010111#8 ++ (rn ++ (rd ++ (amt ++ (ty.bits ++ (0b0#1 ++ rm)))))))
  | .cmnReg c rn rd rs ty rm =>
    .arm (c.bits ++ (0b00010111#8 ++ (rn ++ (rd ++ (rs ++ (0b0#1 ++ (ty.bits ++ (0b1#1 ++ rm))))))))
  | .orrImm c s rn rd rot imm =>
    .arm (c.bits ++ (0b0011100#7 ++ (BitVec.ofBool s ++ (rn ++ (rd ++ (rot ++ imm))))))
  | .orrShift c s rn rd amt ty rm =>
    .arm (c.bits ++ (0b0001100#7 ++ (BitVec.ofBool s ++ (rn ++ (rd ++ (amt ++ (ty.bits ++ (0b0#1 ++ rm))))))))
  | .orrReg c s rn rd rs ty rm =>
    .arm (c.bits ++ (0b0001100#7 ++ (BitVec.ofBool s ++ (rn ++ (rd ++ (rs ++ (0b0#1 ++ (ty.bits ++ (0b1#1 ++ rm)))))))))
  | .movImm c s rn rd rot imm =>
    .arm (c.bits ++ (0b0011101#7 ++ (BitVec.ofBool s ++ (rn ++ (rd ++ (rot ++ imm))))))
  | .movShift c s rn rd amt ty rm =>
    .arm (c.bits ++ (0b0001101#7 ++ (BitVec.ofBool s ++ (rn ++ (rd ++ (amt ++ (ty.bits ++ (0b0#1 ++ rm))))))))
  | .movReg c s rn rd rs ty rm =>
    .arm (c.bits ++ (0b0001101#7 ++ (BitVec.ofBool s ++ (rn ++ (rd ++ (rs ++ (0b0#1 ++ (ty.bits ++ (0b1#1 ++ rm)))))))))
  | .bicImm c s rn rd rot imm =>
    .arm (c.bits ++ (0b0011110#7 ++ (BitVec.ofBool s ++ (rn ++ (rd ++ (rot ++ imm))))))
  | .bicShift c s rn rd amt ty rm =>
    .arm (c.bits ++ (0b0001110#7 ++ (BitVec.ofBool s ++ (rn ++ (rd ++ (amt ++ (ty.bits ++ (0b0#1 ++ rm))))))))
  | .bicReg c s rn rd rs ty rm =>
    .arm (c.bits ++ (0b0001110#7 ++ (BitVec.ofBool s ++ (rn ++ (rd ++ (rs ++ (0b0#1 ++ (ty.bits ++ (0b1#1 ++ rm)))))))))
  | .mvnImm c s rn rd rot imm =>
    .arm (c.bits ++ (0b0011111#7 ++ (BitVec.ofBool s ++ (rn ++ (rd ++ (rot ++ imm))))))
  | .mvnShift c s rn rd amt ty rm =>
    .arm (c.bits ++ (0b0001111#7 ++ (BitVec.ofBool s ++ (rn ++ (rd ++ (amt ++ (ty.bits ++ (0b0#1 ++ rm))))))))
  | .mvnReg c s rn rd rs ty rm =>
    .arm (c.bits ++ (0b0001111#7 ++ (BitVec.ofBool s ++ (rn ++ (rd ++ (rs ++ (0b0#1 ++ (ty.bits ++ (0b1#1 ++ rm)))))))))
  | .mrs c spsr rd =>
    .arm (c.bits ++ (0b00010#5 ++ (BitVec.ofBool spsr ++ (0b001111#6 ++ (rd ++ 0b000000000000#12)))))
  | .msrReg c spsr rm =>
    .arm (c.bits ++ (0b00010#5 ++ (BitVec.ofBool spsr ++ (0b101001111100000000#18 ++ rm))))
  | .msrFlagsReg c spsr rm =>
    .arm (c.bits ++ (0b00010#5 ++ (BitVec.ofBool spsr ++ (0b101000111100000000#18 ++ rm))))
  | .msrFlagsImm c spsr rot imm =>
    .arm (c.bits ++ (0b00110#5 ++ (BitVec.ofBool spsr ++ (0b1010001111#10 ++ (rot ++ imm)))))
  | .mul c s rd rn rs rm =>
    .arm (c.bits ++ (0b0000000#7 ++ (BitVec.ofBool s ++ (rd ++ (rn ++ (rs ++ (0b1001#4 ++ rm)))))))
  | .mla c s rd rn rs rm =>
    .arm (c.bits ++ (0b0000001#7 ++ (BitVec.ofBool s ++ (rd ++ (rn ++ (rs ++ (0b1001#4 ++ rm)))))))
  | .umull c s hi lo rs rm =>
    .arm (c.bits ++ (0b0000100#7 ++ (BitVec.ofBool s ++ (hi ++ (lo ++ (rs ++ (0b1001#4 ++ rm)))))))
  | .umlal c s hi lo rs rm =>
    .arm (c.bits ++ (0b0000101#7 ++ (BitVec.ofBool s ++ (hi ++ (lo ++ (rs ++ (0b1001#4 ++ rm)))))))
  | .smull c s hi lo rs rm =>
    .arm (c.bits ++ (0b0000110#7 ++ (BitVec.ofBool s ++ (hi ++ (lo ++ (rs ++ (0b1001#4 ++ rm)))))))
  | .smlal c s hi lo rs rm =>
    .arm (c.bits ++ (0b0000111#7 ++ (BitVec.ofBool s ++ (hi ++ (lo ++ (rs ++ (0b1001#4 ++ rm)))))))
  | .strImmPre c u w rn rd off =>
    .arm (c.bits ++ (0b0101#4 ++ (BitVec.ofBool u ++ (0b0#1 ++ (BitVec.ofBool w ++ (0b0#1 ++ (rn ++ (rd ++ off))))))))
  | .strImmPost c u rn rd off =>
    .arm (c.bits ++ (0b0100#4 ++ (BitVec.ofBool u ++ (0b000#3 ++ (rn ++ (rd ++ off))))))
  | .strtImm c u rn rd off =>
    .arm (c.bits ++ (0b0100#4 ++ (BitVec.ofBool u ++ (0b010#3 ++ (rn ++ (rd ++ off))))))
  | .strRegPre c u w rn rd amt ty rm =>
    .arm (c.bits ++ (0b0111#4 ++ (BitVec.ofBool u ++ (0b0#1 ++ (BitVec.ofBool w ++ (0b0#1 ++ (rn ++ (rd ++ (amt ++ (ty.bits ++ (0b0#1 ++ rm)))))))))))
  | .strRegPost c u rn rd amt ty rm =>
    .arm (c.bits ++ (0b0110#4 ++ (BitVec.ofBool u ++ (0b000#3 ++ (rn ++ (rd ++ (amt ++ (ty.bits ++ (0b0#1 ++ rm)))))))))
  | .strtReg c u rn rd amt ty rm =>
    .arm (c.bits ++ (0b0110#4 ++ (BitVec.ofBool u ++ (0b010#3 ++ (rn ++ (rd ++ (amt ++ (ty.bits ++ (0b0#1 ++ rm)))))))))
  | .ldrImmPre c u w rn rd off =>
    .arm (c.bits ++ (0b0101#4 ++ (BitVec.ofBool u ++ (0b0#1 ++ (BitVec.ofBool w ++ (0b1#1 ++ (rn ++ (rd ++ off))))))))
  | .ldrImmPost c u rn rd off =>
    .arm (c.bits ++ (0b0100#4 ++ (BitVec.ofBool u ++ (0b001#3 ++ (rn ++ (rd ++ off))))))
  | .ldrtImm c u rn rd off =>
    .arm (c.bits ++ (0b0100#4 ++ (BitVec.ofBool u ++ (0b011#3 ++ (rn ++ (rd ++ off))))))
  | .ldrRegPre c u w rn rd amt ty rm =>
    .arm (c.bits ++ (0b0111#4 ++ (BitVec.ofBool u ++ (0b0#1 ++ (BitVec.ofBool w ++ (0b1#1 ++ (rn ++ (rd ++ (amt ++ (ty.bits ++ (0b0#1 ++ rm)))))))))))
  | .ldrRegPost c u rn rd amt ty rm =>
    .arm (c.bits ++ (0b0110#4 ++ (BitVec.ofBool u ++ (0b001#3 ++ (rn ++ (rd ++ (amt ++ (ty.bits ++ (0b0#1 ++ rm)))))))))
  | .ldrtReg c u rn rd amt ty rm =>
    .arm (c.bits ++ (0b0110#4 ++ (BitVec.ofBool u ++ (0b011#3 ++ (rn ++ (rd ++ (amt ++ (ty.bits ++ (0b0#1 ++ rm)))))))))
  | .strbImmPre c u w rn rd off =>
    .arm (c.bits ++ (0b0101#4 ++ (BitVec.ofBool u ++ (0b1#1 ++ (BitVec.ofBool w ++ (0b0#1 ++ (rn ++ (rd ++ off))))))))
  | .strbImmPost c u rn rd off =>
    .arm (c.bits ++ (0b0100#4 ++ (BitVec.ofBool u ++ (0b100#3 ++ (rn ++ (rd ++ off))))))
  | .strbtImm c u rn rd off =>
    .arm (c.bits ++ (0b0100#4 ++ (BitVec.ofBool u ++ (0b110#3 ++ (rn ++ (rd ++ off))))))
  | .strbRegPre c u w rn rd amt ty rm =>
    .arm (c.bits ++ (0b0111#4 ++ (BitVec.ofBool u ++ (0b1#1 ++ (BitVec.ofBool w ++ (0b0#1 ++ (rn ++ (rd ++ (amt ++ (ty.bits ++ (0b0#1 ++ rm)))))))))))
  | .strbRegPost c u rn rd amt ty rm =>
    .arm (c.bits ++ (0b0110#4 ++ (BitVec.ofBool u ++ (0b100#3 ++ (rn ++ (rd ++ (amt ++ (ty.bits ++ (0b0#1 ++ rm)))))))))
  | .strbtReg c u rn rd amt ty rm =>
    .arm (c.bits ++ (0b0110#4 ++ (BitVec.ofBool u ++ (0b110#3 ++ (rn ++ (rd ++ (amt ++ (ty.bits ++ (0b0#1 ++ rm)))))))))
  | .ldrbImmPre c u w rn rd off =>
    .arm (c.bits ++ (0b0101#4 ++ (BitVec.ofBool u ++ (0b1#1 ++ (BitVec.ofBool w ++ (0b1#1 ++ (rn ++ (rd ++ off))))))))
  | .ldrbImmPost c u rn rd off =>
    .arm (c.bits ++ (0b0100#4 ++ (BitVec.ofBool u ++ (0b101#3 ++ (rn ++ (rd ++ off))))))
  | .ldrbtImm c u rn rd off =>
    .arm (c.bits ++ (0b0100#4 ++ (BitVec.ofBool u ++ (0b111#3 ++ (rn ++ (rd ++ off))))))
  | .ldrbRegPre c u w rn rd amt ty rm =>
    .arm (c.bits ++ (0b0111#4 ++ (BitVec.ofBool u ++ (0b1#1 ++ (BitVec.ofBool w ++ (0b1#1 ++ (rn ++ (rd ++ (amt ++ (ty.bits ++ (0b0#1 ++ rm)))))))))))
  | .ldrbRegPost c u rn rd amt ty rm =>
    .arm (c.bits ++ (0b0110#4 ++ (BitVec.ofBool u ++ (0b101#3 ++ (rn ++ (rd ++ (amt ++ (ty.bits ++ (0b0#1 ++ rm)))))))))
  | .ldrbtReg c u rn rd amt ty rm =>
    .arm (c.bits ++ (0b0110#4 ++ (BitVec.ofBool u ++ (0b111#3 ++ (rn ++ (rd ++ (amt ++ (ty.bits ++ (0b0#1 ++ rm)))))))))
  | .strhReg c p u w rn rd rm =>
    .arm (c.bits ++ (0b000#3 ++ (BitVec.ofBool p ++ (BitVec.ofBool u ++ (0b0#1 ++ (BitVec.ofBool w ++ (0b0#1 ++ (rn ++ (rd ++ (0b00001011#8 ++ rm))))))))))
  | .strhImm c p u w rn rd off =>
    .arm (c.bits ++ (0b000#3 ++ (BitVec.ofBool p ++ (BitVec.ofBool u ++ (0b1#1 ++ (BitVec.ofBool w ++ (0b0#1 ++ (rn ++ (rd ++ (off.extractLsb' 4 4 ++ (0b1011#4 ++ off.extractLsb' 0 4)))))))))))
  | .ldrhReg c p u w rn rd rm =>
    .arm (c.bits ++ (0b000#3 ++ (BitVec.ofBool p ++ (BitVec.ofBool u ++ (0b0#1 ++ (BitVec.ofBool w ++ (0b1#1 ++ (rn ++ (rd ++ (0b00001011#8 ++ rm))))))))))
  | .ldrhImm c p u w rn rd off =>
    .arm (c.bits ++ (0b000#3 ++ (BitVec.ofBool p ++ (BitVec.ofBool u ++ (0b1#1 ++ (BitVec.ofBool w ++ (0b1#1 ++ (rn ++ (rd ++ (off.extractLsb' 4 4 ++ (0b1011#4 ++ off.extractLsb' 0 4)))))))))))
  | .ldrsbReg c p u w rn rd rm =>
    .arm (c.bits ++ (0b000#3 ++ (BitVec.ofBool p ++ (BitVec.ofBool u ++ (0b0#1 ++ (BitVec.ofBool w ++ (0b1#1 ++ (rn ++ (rd ++ (0b00001101#8 ++ rm))))))))))
  | .ldrsbImm c p u w rn rd off =>
    .arm (c.bits ++ (0b000#3 ++ (BitVec.ofBool p ++ (BitVec.ofBool u ++ (0b1#1 ++ (BitVec.ofBool w ++ (0b1#1 ++ (rn ++ (rd ++ (off.extractLsb' 4 4 ++ (0b1101#4 ++ off.extractLsb' 0 4)))))))))))
  | .ldrshReg c p u w rn rd rm =>
    .arm (c.bits ++ (0b000#3 ++ (BitVec.ofBool p ++ (BitVec.ofBool u ++ (0b0#1 ++ (BitVec.ofBool w ++ (0b1#1 ++ (rn ++ (rd ++ (0b00001111#8 ++ rm))))))))))
  | .ldrshImm c p u w rn rd off =>
    .arm (c.bits ++ (0b000#3 ++ (BitVec.ofBool p ++ (BitVec.ofBool u ++ (0b1#1 ++ (BitVec.ofBool w ++ (0b1#1 ++ (rn ++ (rd ++ (off.extractLsb' 4 4 ++ (0b1111#4 ++ off.extractLsb' 0 4)))))))))))
  | .stm c p u s w rn list =>
    .arm (c.bits ++ (0b100#3 ++ (BitVec.ofBool p ++ (BitVec.ofBool u ++ (BitVec.ofBool s ++ (BitVec.ofBool w ++ (0b0#1 ++ (rn ++ list))))))))
  | .ldm c p u s w rn list =>
    .arm (c.bits ++ (0b100#3 ++ (BitVec.ofBool p ++ (BitVec.ofBool u ++ (BitVec.ofBool s ++ (BitVec.ofBool w ++ (0b1#1 ++ (rn ++ list))))))))
  | .swp c rn rd rm =>
    .arm (c.bits ++ (0b00010000#8 ++ (rn ++ (rd ++ (0b00001001#8 ++ rm)))))
  | .swpb c rn rd rm =>
    .arm (c.bits ++ (0b00010100#8 ++ (rn ++ (rd ++ (0b00001001#8 ++ rm)))))
  | .swi c comment =>
    .arm (c.bits ++ (0b1111#4 ++ comment))
  | .cdp c opc crn crd cp info crm =>
    .arm (c.bits ++ (0b1110#4 ++ (opc ++ (crn ++ (crd ++ (cp ++ (info ++ (0b0#1 ++ crm))))))))
  | .stc c p u n w rn crd cp off =>
    .arm (c.bits ++ (0b110#3 ++ (BitVec.ofBool p ++ (BitVec.ofBool u ++ (BitVec.ofBool n ++ (BitVec.ofBool w ++ (0b0#1 ++ (rn ++ (crd ++ (cp ++ off))))))))))
  | .ldc c p u n w rn crd cp off =>
    .arm (c.bits ++ (0b110#3 ++ (BitVec.ofBool p ++ (BitVec.ofBool u ++ (BitVec.ofBool n ++ (BitVec.ofBool w ++ (0b1#1 ++ (rn ++ (crd ++ (cp ++ off))))))))))
  | .mcr c opc crn rd cp info crm =>
    .arm (c.bits ++ (0b1110#4 ++ (opc ++ (0b0#1 ++ (crn ++ (rd ++ (cp ++ (info ++ (0b1#1 ++ crm)))))))))
  | .mrc c opc crn rd cp info crm =>
    .arm (c.bits ++ (0b1110#4 ++ (opc ++ (0b1#1 ++ (crn ++ (rd ++ (cp ++ (info ++ (0b1#1 ++ crm)))))))))
  | .undef c x y =>
    .arm (c.bits ++ (0b011#3 ++ (x ++ (0b1#1 ++ y))))
  | .tLslImm off rs rd =>
    .thumb (0b00000#5 ++ (off ++ (rs ++ rd)))
  | .tLsrImm off rs rd =>
    .thumb (0b00001#5 ++ (off ++ (rs ++ rd)))
  | .tAsrImm off rs rd =>
    .thumb (0b00010#5 ++ (off ++ (rs ++ rd)))
  | .tAddReg rn rs rd =>
    .thumb (0b0001100#7 ++ (rn ++ (rs ++ rd)))
  | .tSubReg rn rs rd =>
    .thumb (0b0001101#7 ++ (rn ++ (rs ++ rd)))
  | .tAddImm3 off rs rd =>
    .thumb (0b0001110#7 ++ (off ++ (rs ++ rd)))
  | .tSubImm3 off rs rd =>
    .thumb (0b0001111#7 ++ (off ++ (rs ++ rd)))
  | .tMovImm rd off =>
    .thumb (0b00100#5 ++ (rd ++ off))
  | .tCmpImm rd off =>
    .thumb (0b00101#5 ++ (rd ++ off))
  | .tAddImm8 rd off =>
    .thumb (0b00110#5 ++ (rd ++ off))
  | .tSubImm8 rd off =>
    .thumb (0b00111#5 ++ (rd ++ off))
  | .tAnd rs rd =>
    .thumb (0b0100000000#10 ++ (rs ++ rd))
  | .tEor rs rd =>
    .thumb (0b0100000001#10 ++ (rs ++ rd))
  | .tLslReg rs rd =>
    .thumb (0b0100000010#10 ++ (rs ++ rd))
  | .tLsrReg rs rd =>
    .thumb (0b0100000011#10 ++ (rs ++ rd))
  | .tAsrReg rs rd =>
    .thumb (0b0100000100#10 ++ (rs ++ rd))
  | .tAdc rs rd =>
    .thumb (0b0100000101#10 ++ (rs ++ rd))
  | .tSbc rs rd =>
    .thumb (0b0100000110#10 ++ (rs ++ rd))
  | .tRorReg rs rd =>
    .thumb (0b0100000111#10 ++ (rs ++ rd))
  | .tTst rs rd =>
    .thumb (0b0100001000#10 ++ (rs ++ rd))
  | .tNeg rs rd =>
    .thumb (0b0100001001#10 ++ (rs ++ rd))
  | .tCmp rs rd =>
    .thumb (0b0100001010#10 ++ (rs ++ rd))
  | .tCmn rs rd =>
    .thumb (0b0100001011#10 ++ (rs ++ rd))
  | .tOrr rs rd =>
    .thumb (0b0100001100#10 ++ (rs ++ rd))
  | .tMul rs rd =>
    .thumb (0b0100001101#10 ++ (rs ++ rd))
  | .tBic rs rd =>
    .thumb (0b0100001110#10 ++ (rs ++ rd))
  | .tMvn rs rd =>
    .thumb (0b0100001111#10 ++ (rs ++ rd))
  | .tAddLoHi rs rd =>
    .thumb (0b0100010001#10 ++ (rs ++ rd))
  | .tAddHiLo rs rd =>
    .thumb (0b0100010010#10 ++ (rs ++ rd))
  | .tAddHiHi rs rd =>
    .thumb (0b0100010011#10 ++ (rs ++ rd))
  | .tAddLoLo rs rd =>
    .thumb (0b0100010000#10 ++ (rs ++ rd))
  | .tCmpLoHi rs rd =>
    .thumb (0b0100010101#10 ++ (rs ++ rd))
  | .tCmpHiLo rs rd =>
    .thumb (0b0100010110#10 ++ (rs ++ rd))
  | .tCmpHiHi rs rd =>
    .thumb (0b0100010111#10 ++ (rs ++ rd))
  | .tCmpLoLo rs rd =>
    .thumb (0b0100010100#10 ++ (rs ++ rd))
  | .tMovLoHi rs rd =>
    .thumb (0b0100011001#10 ++ (rs ++ rd))
  | .tMovHiLo rs rd =>
    .thumb (0b0100011010#10 ++ (rs ++ rd))
  | .tMovHiHi rs rd =>
    .thumb (0b0100011011#10 ++ (rs ++ rd))
  | .tMovLoLo rs rd =>
    .thumb (0b0100011000#10 ++ (rs ++ rd))
  | .tBxLo rs x =>
    .thumb (0b0100011100#10 ++ (rs ++ x))
  | .tBxHi rs x =>
    .thumb (0b0100011101#10 ++ (rs ++ x))
  | .tBxH1 h2 rs x =>
    .thumb (0b010001111#9 ++ (BitVec.ofBool h2 ++ (rs ++ x)))
  | .tLdrPc rd imm =>
    .thumb (0b01001#5 ++ (rd ++ imm))
  | .tStrReg ro rb rd =>
    .thumb (0b0101000#7 ++ (ro ++ (rb ++ rd)))
  | .tStrbReg ro rb rd =>
    .thumb (0b0101010#7 ++ (ro ++ (rb ++ rd)))
  | .tLdrReg ro rb rd =>
    .thumb (0b0101100#7 ++ (ro ++ (rb ++ rd)))
  | .tLdrbReg ro rb rd =>
    .thumb (0b0101110#7 ++ (ro ++ (rb ++ rd)))
  | .tStrhReg ro rb rd =>
    .thumb (0b0101001#7 ++ (ro ++ (rb ++ rd)))
  | .tLdrhReg ro rb rd =>
    .thumb (0b0101101#7 ++ (ro ++ (rb ++ rd)))
  | .tLdsbReg ro rb rd =>
    .thumb (0b0101011#7 ++ (ro ++ (rb ++ rd)))
  | .tLdshReg ro rb rd =>
    .thumb (0b0101111#7 ++ (ro ++ (rb ++ rd)))
  | .tStrImm off rb rd =>
    .thumb (0b01100#5 ++ (off ++ (rb ++ rd)))
  | .tLdrImm off rb rd =>
    .thumb (0b01101#5 ++ (off ++ (rb ++ rd)))
  | .tStrbImm off rb rd =>
    .thumb (0b01110#5 ++ (off ++ (rb ++ rd)))
  | .tLdrbImm off rb rd =>
    .thumb (0b01111#5 ++ (off ++ (rb ++ rd)))
  | .tStrhImm off rb rd =>
    .thumb (0b10000#5 ++ (off ++ (rb ++ rd)))
  | .tLdrhImm off rb rd =>
    .thumb (0b10001#5 ++ (off ++ (rb ++ rd)))
  | .tStrSp rd imm =>
    .thumb (0b10010#5 ++ (rd ++ imm))
  | .tLdrSp rd imm =>
    .thumb (0b10011#5 ++ (rd ++ imm))
  | .tAddPc rd imm =>
    .thumb (0b10100#5 ++ (rd ++ imm))
  | .tAddSp rd imm =>
    .thumb (0b10101#5 ++ (rd ++ imm))
  | .tAddSpPos imm =>
    .thumb (0b101100000#9 ++ imm)
  | .tAddSpNeg imm =>
    .thumb (0b101100001#9 ++ imm)
  | .tPush list =>
    .thumb (0b10110100#8 ++ list)
  | .tPushLr list =>
    .thumb (0b10110101#8 ++ list)
  | .tPop list =>
    .thumb (0b10111100#8 ++ list)
  | .tPopPc list =>
    .thumb (0b10111101#8 ++ list)
  | .tStmia rb list =>
    .thumb (0b11000#5 ++ (rb ++ list))
  | .tLdmia rb list =>
    .thumb (0b11001#5 ++ (rb ++ list))
  | .tBeq off =>
    .thumb (0b11010000#8 ++ off)
  | .tBne off =>
    .thumb (0b11010001#8 ++ off)
  | .tBcs off =>
    .thumb (0b11010010#8 ++ off)
  | .tBcc off =>
    .thumb (0b11010011#8 ++ off)
  | .tBmi off =>
    .thumb (0b11010100#8 ++ off)
  | .tBpl off =>
    .thumb (0b11010101#8 ++ off)
  | .tBvs off =>
    .thumb (0b11010110#8 ++ off)
  | .tBvc off =>
    .thumb (0b11010111#8 ++ off)
  | .tBhi off =>
    .thumb (0b11011000#8 ++ off)
  | .tBls off =>
    .thumb (0b11011001#8 ++ off)
  | .tBge off =>
    .thumb (0b11011010#8 ++ off)
  | .tBlt off =>
    .thumb (0b11011011#8 ++ off)
  | .tBgt off =>
    .thumb (0b11011100#8 ++ off)
  | .tBle off =>
    .thumb (0b11011101#8 ++ off)
  | .tUndefCond x =>
    .thumb (0b11011110#8 ++ x)
  | .tSwi comment =>
    .thumb (0b11011111#8 ++ comment)
  | .tB off =>
    .thumb (0b11100#5 ++ off)
  | .tBlHigh off =>
    .thumb (0b11110#5 ++ off)
  | .tBlLow off =>
    .thumb (0b11111#5 ++ off)
  | .tUndefB1 x =>
    .thumb (0b10110001#8 ++ x)
  | .tUndefB2 x =>
    .thumb (0b1011001#7 ++ x)
  | .tUndefB6 x =>
    .thumb (0b1011011#7 ++ x)
  | .tUndefB8 x =>
    .thumb (0b101110#6 ++ x)
  | .tUndefBe x =>
    .thumb (0b1011111#7 ++ x)
  | .tUndefE8 x =>
    .thumb (0b11101#5 ++ x)

/-- The four bytes of an ARM word or the two of a THUMB halfword, in memory order with BIGEND = 0 (20 R62, R63). -/
def Code.bytes : Code → List Byte
  | .arm w => [w.extractLsb' 0 8, w.extractLsb' 8 8, w.extractLsb' 16 8, w.extractLsb' 24 8]
  | .thumb h => [h.extractLsb' 0 8, h.extractLsb' 8 8]

/-- The instruction whose bytes lie in memory in this order (BIGEND = 0): two bytes are a THUMB halfword, four an ARM
word (20 R63, 30 R100). -/
def decodeBytes : List Byte → Option Instr
  | [b0, b1] => (decodeThumb (b1 ++ b0)).toOption
  | [b0, b1, b2, b3] => (decodeArm (b3 ++ (b2 ++ (b1 ++ b0)))).toOption
  | _ => none

/-- The code of an opcode-table word: rows of 16 bits are THUMB, rows of 32 bits ARM. -/
def tableCode (nbits w : Nat) : Code :=
  if nbits ≤ 16 then .thumb (BitVec.ofNat 16 w) else .arm (BitVec.ofNat 32 w)

/-- What the decoder reads from one opcode-table word, laid out in memory as the hardware stores it. -/
def decodeTableWord (nbits w : Nat) : Option Instr := decodeBytes (tableCode nbits w).bytes

end Sys2Proof
end

