-- ==== Sys2Proof/Machine/Icebreaker.lean ====
section
/-! DEFINITION. ICEBreaker: the watchpoint units, the register map, the debug status, the debugger's side of the comms
channel and the pins of both, what nTRST leaves, and entry to debug state (61_debug.md). -/

namespace Sys2Proof.Machine

/-- MAS[1:0] (20 R65, 61 R482). -/
def Size.mas : Size → BitVec 2
  | .byte => 0b00#2
  | .half => 0b01#2
  | .word => 0b10#2

/-- The bus control signals nTRANS, nOPC, MAS[1:0], nRW as bits 4:0 (61 R482, R483). -/
def BusCycle.control (c : BusCycle) : BitVec 5 :=
  BitVec.ofBool c.priv ++ (BitVec.ofBool (!c.fetch) ++ (c.size.mas ++ BitVec.ofBool c.write))

/-- `FieldMatch` of 61 R481. -/
def fieldMatch {n : Nat} (v m x : BitVec n) : Bool := (~~~(v ^^^ x) ||| m) == BitVec.allOnes n

/-- The lanes of the data bus that a comparison looks at: the valid half of a halfword fetch (61 R481), else all. -/
def BusCycle.lanes (c : BusCycle) (big : Bool) : Word :=
  if c.fetch && c.size == .half then (if c.addr.getLsbD 1 == big then 0x0000FFFF#32 else 0xFFFF0000#32)
  else 0xFFFFFFFF#32

/-- `AC` of 61 R484: address and bus control match. -/
def Watchpoint.matchesAccess (w : Watchpoint) (c : BusCycle) : Bool :=
  fieldMatch w.addrValue w.addrMask c.addr &&
    fieldMatch (w.ctrlValue.extractLsb' 0 5) (w.ctrlMask.extractLsb' 0 5) c.control

/-- `DX` of 61 R484: data and the coupling inputs RANGE, CHAIN, EXTERN match. -/
def Watchpoint.matchesData (w : Watchpoint) (c : BusCycle) (big range chain extern : Bool) : Bool :=
  fieldMatch w.dataValue (w.dataMask ||| ~~~(c.lanes big)) c.data &&
    fieldMatch (w.ctrlValue.extractLsb' 5 3) (w.ctrlMask.extractLsb' 5 3)
      (BitVec.ofBool range ++ (BitVec.ofBool chain ++ BitVec.ofBool extern))

/-- RANGEOUT0 and RANGEOUT1 in a memory cycle: each unit's match, whatever its ENABLE bit (61 R483, R484). Unit 0 sees the
CHAINOUT latch as it was before the cycle (DEDUCED, log 33). -/
def State.rangeOut (s : State) (c : BusCycle) : Bool × Bool :=
  let range1 := s.dbg.wp1.matchesAccess c && s.dbg.wp1.matchesData c s.pins.bigend (Config.wp1Range s.freeCtr c.place)
    (Config.wp1Chain s.freeCtr c.place) s.inp.extern1
  (s.dbg.wp0.matchesAccess c && s.dbg.wp0.matchesData c s.pins.bigend range1 s.dbg.chainOut s.inp.extern0, range1)

/-- One memory cycle as ICEBreaker sees it (61 R483, R484): whether BREAKPT reaches the core, from the pin or from an enabled
unit that matches; and the RANGEOUT pins and the CHAINOUT latch of unit 1, which takes the data comparison where address and
control match, and is held clear while nTRST is LOW (R503). Nothing happens with DBGEN LOW (61 R491). -/
def State.iceCycle (s : State) (c : BusCycle) : Bool × State :=
  if !s.pins.dbgen then (false, s)
  else
    let r := s.rangeOut c
    (c.breakpt || (r.1 && s.dbg.wp0.ctrlValue.getLsbD 8) || (r.2 && s.dbg.wp1.ctrlValue.getLsbD 8),
      { s with dbg := { s.dbg with
          rangeOut0 := r.1
          rangeOut1 := r.2
          chainOut := s.inp.nTRST && (if s.dbg.wp1.matchesAccess c then r.2 else s.dbg.chainOut) } })

/-- ICEBreaker sees several memory cycles in turn. -/
def State.iceCycles (s : State) : List BusCycle → Bool × State
  | [] => (false, s)
  | c :: rest =>
    let r := s.iceCycle c
    let q := r.2.iceCycles rest
    (r.1 || q.1, q.2)

/-- IFEN (61 R490, R491). -/
def State.ifen (s : State) : Bool := !s.pins.dbgen || (!s.dbg.active && !s.dbg.intdis)

/-- DBGRQI: the pin or the synchronised bit 1 of debug control (61 R474, R488). -/
def State.debugRequest (s : State) : Bool := s.inp.dbgrq || s.dbg.dbgrqLatch

/-- The debug status register (61 R489): TBIT, nMREQ, IFEN, DBGRQ, DBGACK. In debug state nMREQ shows internal cycles
(61 R475); while the core runs it is free (log 9). Bit 1 shows DBGRQI, the pin ORed with the latched control bit, where the
rule says only "the synchronised version of DBGRQ" (DESIGN CHOICE, log 69). -/
def State.debugStatus (s : State) : BitVec 5 :=
  BitVec.ofBool s.cpsr.t ++ (BitVec.ofBool (s.dbg.active || Config.runningNMreq s.freeCtr) ++
    (BitVec.ofBool s.ifen ++ (BitVec.ofBool s.debugRequest ++ BitVec.ofBool s.dbg.active)))

/-- COMMRX: the receive buffer is empty (61 R501). -/
def State.commrx (s : State) : Bool := !s.dbg.commsR

/-- COMMTX: the transmit buffer is empty (61 R501). -/
def State.commtx (s : State) : Bool := !s.dbg.commsW

/-- The ICEBreaker register at an address (61 R480), zero-extended; unallocated addresses are free (U47). -/
def State.iceRegister (s : State) (a : BitVec 5) : Word :=
  match a.toNat with
  | 0 => (BitVec.ofBool s.dbg.intdis ++ (BitVec.ofBool s.dbg.dbgrq ++ BitVec.ofBool s.dbg.dbgack)).setWidth 32
  | 1 => s.debugStatus.setWidth 32
  | 4 => s.commsControl
  | 5 => s.dbg.commsWrite
  | 8 => s.dbg.wp0.addrValue
  | 9 => s.dbg.wp0.addrMask
  | 10 => s.dbg.wp0.dataValue
  | 11 => s.dbg.wp0.dataMask
  | 12 => s.dbg.wp0.ctrlValue.setWidth 32
  | 13 => s.dbg.wp0.ctrlMask.setWidth 32
  | 16 => s.dbg.wp1.addrValue
  | 17 => s.dbg.wp1.addrMask
  | 18 => s.dbg.wp1.dataValue
  | 19 => s.dbg.wp1.dataMask
  | 20 => s.dbg.wp1.ctrlValue.setWidth 32
  | 21 => s.dbg.wp1.ctrlMask.setWidth 32
  | _ => Config.iceUnallocated s.freeCtr

/-- `IceRead` of 61 R479; reading the comms data register clears W (R500). -/
def State.iceRead (s : State) (a : BitVec 5) : State :=
  { s with dbg := { s.dbg with iceOut := some (s.iceRegister a), commsW := s.dbg.commsW && !(a == 5#5) } }

/-- A watchpoint register written, by the low three bits of its address (61 R480). -/
def Watchpoint.write (w : Watchpoint) (k : BitVec 3) (v : Word) : Watchpoint :=
  match k.toNat with
  | 0 => { w with addrValue := v }
  | 1 => { w with addrMask := v }
  | 2 => { w with dataValue := v }
  | 3 => { w with dataMask := v }
  | 4 => { w with ctrlValue := v.extractLsb' 0 9 }
  | 5 => { w with ctrlMask := v.extractLsb' 0 8 }
  | _ => w

/-- `IceWrite` of 61 R479: debug control (R488); the comms data register, which sets R (R500); the watchpoint registers,
where writing the control value of unit 1 clears its CHAINOUT latch (R484). Writes to debug status, comms control and
unallocated addresses have no effect (R489 states none; D22). -/
def Debug.iceWrite (g : Debug) (a : BitVec 5) (v : Word) : Debug :=
  if a = 0#5 then { g with intdis := v.getLsbD 2, dbgrq := v.getLsbD 1, dbgack := v.getLsbD 0 }
  else if a = 5#5 then { g with commsRead := v, commsR := true }
  else if a.extractLsb' 3 2 = 0b01#2 then { g with wp0 := g.wp0.write (a.extractLsb' 0 3) v }
  else if a.extractLsb' 3 2 = 0b10#2 then
    { g with wp1 := g.wp1.write (a.extractLsb' 0 3) v, chainOut := g.chainOut && !(a == 20#5) }
  else g

/-- A watchpoint unit whose six registers hold any value, by the address of the first (70 R522, U47). -/
def Watchpoint.free (ctr : Nat) (base : BitVec 5) : Watchpoint where
  addrValue := Config.iceAfterReset ctr base
  addrMask := Config.iceAfterReset ctr (base + 1#5)
  dataValue := Config.iceAfterReset ctr (base + 2#5)
  dataMask := Config.iceAfterReset ctr (base + 3#5)
  ctrlValue := (Config.iceAfterReset ctr (base + 4#5)).extractLsb' 0 9
  ctrlMask := (Config.iceAfterReset ctr (base + 5#5)).extractLsb' 0 8

/-- What nTRST LOW leaves (61 R484, R502, R503, 70 R522): IDCODE and scan chain 3 selected, CHAINOUT clear, and any value in
every ICEBreaker register (U47, log 67). The bypass register, to which no rule gives a value then, keeps its own (DESIGN
CHOICE, log 67). -/
def Debug.afterTrst (g : Debug) (ctr : Nat) : Debug :=
  { g with
    tapIr := 0b1110#4
    scanSelect := 3#4
    chainOut := false
    intdis := (Config.iceAfterReset ctr 0#5).getLsbD 2
    dbgrq := (Config.iceAfterReset ctr 0#5).getLsbD 1
    dbgack := (Config.iceAfterReset ctr 0#5).getLsbD 0
    commsW := (Config.iceAfterReset ctr 4#5).getLsbD 1
    commsR := (Config.iceAfterReset ctr 4#5).getLsbD 0
    commsWrite := Config.iceAfterReset ctr 5#5
    commsRead := Config.iceAfterReset ctr 6#5
    wp0 := Watchpoint.free ctr 8#5
    wp1 := Watchpoint.free ctr 16#5 }

/-- Entry to debug state (61 R475, R496): the pipeline is flushed and the PC set ahead by what the cause adds. `watch` is
what bit 33 of scan chain 1 captures (R493). -/
def State.enterDebug (s : State) (pc : Word) (watch : Bool) : State :=
  { s with
    pc := pc
    pipe := []
    dbg :=
      { s.dbg with
        active := true
        systemSpeed := false
        captured33 := watch
        scanned33 := false
        pending := none
        pendingData := []
        executed := 0
        refill := 0 } }

/-- Entry on a breakpoint, at the breakpointed instruction, or on a watchpoint, at the next one: four instructions ahead of
what the final branch of R496 counts, which is three ahead of `pc`. -/
def State.enterDebugBreak (s : State) (watch : Bool) : State :=
  s.enterDebug (s.pc + s.instrBytes + s.instrBytes + s.instrBytes) watch

/-- Entry on a debug request, or on a watchpoint with an exception: one instruction less (61 R496). -/
def State.enterDebugRequest (s : State) (watch : Bool) : State :=
  s.enterDebug (s.pc + s.instrBytes + s.instrBytes) watch

end Sys2Proof.Machine
end

