-- ==== Sys2Proof/Machine/Fetch.lean ====
section
/-! DEFINITION. Instruction fetch: the memory cycle of a fetch, the prefetch queue, and decoding the instruction that is about
to execute. -/

namespace Sys2Proof.Machine

/-- The opcode that memory holds for the instruction at `a` in the current state (20 R76, R77). -/
def State.opcodeAt (s : State) (a : Word) : Word :=
  if s.cpsr.t then (Memory.halfAt s.pins.bigend s.mem a).setWidth 32 else Memory.wordAt s.pins.bigend s.mem a

/-- The low address bits of a fetch as the bus shows them: undefined (20 R76, log 25). -/
def State.fetchLow (s : State) (mask : Word) : Word := (Config.fetchAddrLow s.freeCtr s.bus.length).setWidth 32 &&& mask

/-- The memory cycle of the fetch of the instruction at `a` (20 R76, R77, R83, R84): a halfword fetch shows the opcode on both
halves, of which only the valid one is ever compared (61 R481); the first fetch after a break of the sequence, or after a
data access or an MCR with no internal cycle behind it, is non-sequential (20 R92, 70 R545; log 73): `seq`. -/
def State.fetchCycle (s : State) (a : Word) (seq : Bool) : BusCycle :=
  let size : Size := if s.cpsr.t then .half else .word
  s.busCycle (a ||| s.fetchLow (if s.cpsr.t then 1#32 else 3#32)) size false true s.privileged false seq
    (if s.cpsr.t then (s.opcodeAt a).extractLsb' 0 16 ++ (s.opcodeAt a).extractLsb' 0 16 else s.opcodeAt a)
    (s.aborts a size false true s.privileged)

/-- The address of the next fetch into the queue: past what it holds (10 R45). -/
def State.fetchAddr (s : State) : Word := s.pc + BitVec.ofNat 32 s.pipe.length * s.instrBytes

/-- The memory cycle of the next fetch into the queue. -/
def State.nextFetch (s : State) : BusCycle := s.fetchCycle s.fetchAddr (!(s.pipe.isEmpty || s.nonSeq))

/-- One instruction fetched into the queue, with its prefetch-abort and breakpoint marks (10 R45, R46, 61 R472). -/
def State.prefetch (s : State) : State :=
  let c := s.nextFetch
  let r := (s.logCycle c).iceCycle c
  { r.2 with pipe := s.pipe ++ [⟨s.opcodeAt s.fetchAddr, c.aborted, r.1⟩], nonSeq := false }

/-- The queue filled up to `n` instructions (10 R45, 20 R88, R89, 70 R546): what is in it stays as it was fetched (D14). Three
before an instruction executes: its first cycle fetches two ahead. Two after it: nothing, but where the instruction wrote
the PC or took an exception, the two fetches of the refill. -/
def State.fillPipe (s : State) : Nat → State
  | 0 => s
  | n + 1 => if s.pipe.length ≤ n then (s.fillPipe n).prefetch else s

/-- The instruction about to execute, as it was fetched. -/
def State.head (s : State) : Slot := s.pipe.headD ⟨s.opcodeAt s.pc, false, false⟩

/-- The opcode about to execute. -/
def State.opcode (s : State) : Word := s.head.opcode

/-- The instruction about to execute, decoded in the current state (60 R436, step 8). -/
def State.decodeNext (s : State) : Decoded :=
  if s.cpsr.t then decodeThumb (s.opcode.extractLsb' 0 16) else decodeArm s.opcode

/-- What a word without a meaning does at step 8: condition 1111 is refused in any case (U4); an unallocated word is skipped
when its condition fails and refused when it passes (93, `refuse`). -/
def State.undecodable (s : State) (e : DecodeError) : Result :=
  match e with
  | .reservedCondition => .refused .reservedCondition
  | .unallocated c u =>
    if condPassed c s.cpsr then
      match u with
      | .signedStore => .refused .signedStore
      | _ => .refused .unallocated
    else .next s.advance

end Sys2Proof.Machine
end

