-- ==== Sys2Proof/Machine/DebugState.lean ====
section
/-! DEFINITION. Debug state: the instructions that may be scanned in, execution at debug speed and at system speed, the
debugger's commands, and leaving debug state (61_debug.md). -/

namespace Sys2Proof.Machine

/-- What an instruction may be used for in debug state (61 R493, R495). -/
inductive DebugUse where
  /-- It may be executed at debug speed. -/
  | compute
  /-- It may be executed at debug speed, and as the final branch. -/
  | writesPc
  /-- It may be executed at debug speed and at system speed. -/
  | access
  /-- It may be the final branch only. -/
  | branch
  /-- It may not be scanned in. -/
  | illegal
  deriving DecidableEq, Repr

/-- A data processing instruction by its destination. -/
def DebugUse.ofDestination (rd : Reg) : DebugUse := if rd = 15#4 then .writesPc else .compute

/-- TEQ by its Rd field: TEQP may not be scanned in ("all data processing operations, except TEQP"). -/
def DebugUse.ofTeq (rd : Reg) : DebugUse := if rd = 15#4 then .illegal else .compute

/-- The use of each instruction (61 R493: data processing except TEQP, loads and stores, LDM and STM, MSR and MRS; R494: the
THUMB sequence with BX; R495: the branch). The THUMB operations and BX, and the branches other than B and SUB PC that may
be the final one, are DEDUCED, log 34. -/
def debugUse (i : Instr) : DebugUse :=
  match i with
  | .andImm _ _ _ rd _ _ | .andShift _ _ _ rd _ _ _ | .andReg _ _ _ rd _ _ _ | .eorImm _ _ _ rd _ _
  | .eorShift _ _ _ rd _ _ _ | .eorReg _ _ _ rd _ _ _ | .subImm _ _ _ rd _ _ | .subShift _ _ _ rd _ _ _
  | .subReg _ _ _ rd _ _ _ | .rsbImm _ _ _ rd _ _ | .rsbShift _ _ _ rd _ _ _ | .rsbReg _ _ _ rd _ _ _
  | .addImm _ _ _ rd _ _ | .addShift _ _ _ rd _ _ _ | .addReg _ _ _ rd _ _ _ | .adcImm _ _ _ rd _ _
  | .adcShift _ _ _ rd _ _ _ | .adcReg _ _ _ rd _ _ _ | .sbcImm _ _ _ rd _ _ | .sbcShift _ _ _ rd _ _ _
  | .sbcReg _ _ _ rd _ _ _ | .rscImm _ _ _ rd _ _ | .rscShift _ _ _ rd _ _ _ | .rscReg _ _ _ rd _ _ _
  | .orrImm _ _ _ rd _ _ | .orrShift _ _ _ rd _ _ _ | .orrReg _ _ _ rd _ _ _ | .movImm _ _ _ rd _ _
  | .movShift _ _ _ rd _ _ _ | .movReg _ _ _ rd _ _ _ | .bicImm _ _ _ rd _ _ | .bicShift _ _ _ rd _ _ _
  | .bicReg _ _ _ rd _ _ _ | .mvnImm _ _ _ rd _ _ | .mvnShift _ _ _ rd _ _ _ | .mvnReg _ _ _ rd _ _ _ => .ofDestination rd
  | .teqImm _ _ rd _ _ | .teqShift _ _ rd _ _ _ | .teqReg _ _ rd _ _ _ => .ofTeq rd
  | .tstImm _ _ _ _ _ | .tstShift _ _ _ _ _ _ | .tstReg _ _ _ _ _ _ | .cmpImm _ _ _ _ _ | .cmpShift _ _ _ _ _ _
  | .cmpReg _ _ _ _ _ _ | .cmnImm _ _ _ _ _ | .cmnShift _ _ _ _ _ _ | .cmnReg _ _ _ _ _ _ => .compute
  | .mrs _ _ _ | .msrReg _ _ _ | .msrFlagsReg _ _ _ | .msrFlagsImm _ _ _ _ => .compute
  | .strImmPre _ _ _ _ _ _ | .strImmPost _ _ _ _ _ | .strtImm _ _ _ _ _ | .strRegPre _ _ _ _ _ _ _ _
  | .strRegPost _ _ _ _ _ _ _ | .strtReg _ _ _ _ _ _ _ | .ldrImmPre _ _ _ _ _ _ | .ldrImmPost _ _ _ _ _
  | .ldrtImm _ _ _ _ _ | .ldrRegPre _ _ _ _ _ _ _ _ | .ldrRegPost _ _ _ _ _ _ _ | .ldrtReg _ _ _ _ _ _ _
  | .strbImmPre _ _ _ _ _ _ | .strbImmPost _ _ _ _ _ | .strbtImm _ _ _ _ _ | .strbRegPre _ _ _ _ _ _ _ _
  | .strbRegPost _ _ _ _ _ _ _ | .strbtReg _ _ _ _ _ _ _ | .ldrbImmPre _ _ _ _ _ _ | .ldrbImmPost _ _ _ _ _
  | .ldrbtImm _ _ _ _ _ | .ldrbRegPre _ _ _ _ _ _ _ _ | .ldrbRegPost _ _ _ _ _ _ _ | .ldrbtReg _ _ _ _ _ _ _
  | .strhReg _ _ _ _ _ _ _ | .strhImm _ _ _ _ _ _ _ | .ldrhReg _ _ _ _ _ _ _ | .ldrhImm _ _ _ _ _ _ _
  | .ldrsbReg _ _ _ _ _ _ _ | .ldrsbImm _ _ _ _ _ _ _ | .ldrshReg _ _ _ _ _ _ _ | .ldrshImm _ _ _ _ _ _ _
  | .stm _ _ _ _ _ _ _ | .ldm _ _ _ _ _ _ _ | .tLdrPc _ _ | .tStrReg _ _ _ | .tStrbReg _ _ _ | .tLdrReg _ _ _
  | .tLdrbReg _ _ _ | .tStrhReg _ _ _ | .tLdrhReg _ _ _ | .tLdsbReg _ _ _ | .tLdshReg _ _ _ | .tStrImm _ _ _
  | .tLdrImm _ _ _ | .tStrbImm _ _ _ | .tLdrbImm _ _ _ | .tStrhImm _ _ _ | .tLdrhImm _ _ _ | .tStrSp _ _
  | .tLdrSp _ _ | .tPush _ | .tPushLr _ | .tPop _ | .tPopPc _ | .tStmia _ _ | .tLdmia _ _ => .access
  | .tLslImm _ _ _ | .tLsrImm _ _ _ | .tAsrImm _ _ _ | .tAddReg _ _ _ | .tSubReg _ _ _ | .tAddImm3 _ _ _
  | .tSubImm3 _ _ _ | .tMovImm _ _ | .tCmpImm _ _ | .tAddImm8 _ _ | .tSubImm8 _ _ | .tAnd _ _ | .tEor _ _
  | .tLslReg _ _ | .tLsrReg _ _ | .tAsrReg _ _ | .tAdc _ _ | .tSbc _ _ | .tRorReg _ _ | .tTst _ _ | .tNeg _ _
  | .tCmp _ _ | .tCmn _ _ | .tOrr _ _ | .tBic _ _ | .tMvn _ _ | .tAddLoHi _ _ | .tCmpLoHi _ _ | .tCmpHiLo _ _
  | .tCmpHiHi _ _ | .tMovLoHi _ _ | .tAddPc _ _ | .tAddSp _ _ | .tAddSpPos _ | .tAddSpNeg _ => .compute
  | .tAddHiLo _ rd | .tAddHiHi _ rd | .tMovHiLo _ rd | .tMovHiHi _ rd => .ofDestination (hiReg rd)
  | .b _ _ | .bl _ _ | .tB _ | .tBeq _ | .tBne _ | .tBcs _ | .tBcc _ | .tBmi _ | .tBpl _ | .tBvs _ | .tBvc _
  | .tBhi _ | .tBls _ | .tBge _ | .tBlt _ | .tBgt _ | .tBle _ => .branch
  | .bx _ _ | .tBxLo _ _ | .tBxHi _ _ => .writesPc
  | .mul _ _ _ _ _ _ | .mla _ _ _ _ _ _ | .umull _ _ _ _ _ _ | .umlal _ _ _ _ _ _ | .smull _ _ _ _ _ _
  | .smlal _ _ _ _ _ _ | .swp _ _ _ _ | .swpb _ _ _ _ | .swi _ _ | .cdp _ _ _ _ _ _ _ | .stc _ _ _ _ _ _ _ _ _
  | .ldc _ _ _ _ _ _ _ _ _ | .mcr _ _ _ _ _ _ _ | .mrc _ _ _ _ _ _ _ | .undef _ _ _ | .tMul _ _ | .tAddLoLo _ _
  | .tCmpLoLo _ _ | .tMovLoLo _ _ | .tBxH1 _ _ _ | .tUndefCond _ | .tSwi _ | .tBlHigh _ | .tBlLow _
  | .tUndefB1 _ | .tUndefB2 _ | .tUndefB6 _ | .tUndefB8 _ | .tUndefBe _ | .tUndefE8 _ => .illegal

/-- SCAN_N (61 R502). -/
def tapScanN : BitVec 4 := 0b0010#4

/-- RESTART (61 R502). -/
def tapRestart : BitVec 4 := 0b0100#4

/-- INTEST (61 R502). -/
def tapIntest : BitVec 4 := 0b1100#4

/-- IDCODE (61 R502). -/
def tapIdcode : BitVec 4 := 0b1110#4

/-- BYPASS, to which all unused codes default (61 R502). -/
def tapIsBypass (ir : BitVec 4) : Bool :=
  ir != 0b0000#4 && ir != tapScanN && ir != tapIntest && ir != tapIdcode && ir != 0b0101#4 && ir != 0b0111#4 &&
    ir != 0b1001#4 && ir != 0b0011#4 && ir != tapRestart

/-- The device identification register (61 R502, U48): bit 0 is 1, the rest a parameter. -/
def deviceId : Word := Config.deviceIdentity ++ 1#1

/-- What the TAP instruction register captures (61 R502). -/
def tapIrCapture : BitVec 4 := 0b0001#4

/-- What the scan path select register captures (61 R502). -/
def scanSelectCapture : BitVec 4 := 0b1000#4

/-- The debugger's command of this step. While nTRST is LOW the TAP is held in reset and no command acts, where the spec gives
no order for the two (DESIGN CHOICE, log 70). -/
def State.debugCommand (s : State) : DebugCmd := if s.inp.nTRST then s.inp.dbg else .idle

/-- The debugger's command on the TAP and scan chain 2, whatever the core does (61 R479, R488, R502); `none` where it is out of
its protocol. A chain number that Table 35 does not list (5 to 7, 9 to 15) is refused like the reserved 4 and 8 (DESIGN CHOICE,
log 75). Loading BYPASS or RESTART clears the bypass register at once (DESIGN CHOICE, log 61). -/
def State.tapCommand (s : State) : DebugCmd → Option State
  | .idle => some s
  | .loadIr ir =>
    some { s with dbg := { s.dbg with
      tapIr := ir
      bypass := s.dbg.bypass && !(tapIsBypass ir || ir == tapRestart)
      tapOut := some (tapIrCapture.setWidth 32) } }
  | .selectChain n =>
    if s.dbg.tapIr = tapScanN && n.toNat < 4 then
      some { s with dbg := { s.dbg with scanSelect := n, tapOut := some (scanSelectCapture.setWidth 32) } }
    else none
  | .iceRead a => if s.dbg.scanSelect = 2#4 && s.dbg.tapIr = tapIntest then some (s.iceRead a) else none
  | .iceWrite a v =>
    if s.dbg.scanSelect = 2#4 && s.dbg.tapIr = tapIntest then some { s with dbg := s.dbg.iceWrite a v } else none
  | .scan _ _ _ =>
    if s.dbg.active && s.dbg.scanSelect = 1#4 && s.dbg.tapIr = tapIntest && s.dbg.pending.isNone then some s else none
  | .runTestIdle => some { s with dbg := { s.dbg with dbgrqLatch := s.dbg.dbgrq } }
  | .scanDr last =>
    if s.dbg.tapIr = tapIdcode then some { s with dbg := { s.dbg with tapOut := some deviceId } }
    else if tapIsBypass s.dbg.tapIr || s.dbg.tapIr = tapRestart then
      some { s with dbg := { s.dbg with bypass := last, tapOut := some 0#32 } }
    else none

/-- The TAP and ICEBreaker in one step: nTRST, then the command (61 R502, R503). With DBGEN LOW the debugger has no effect
(61 R470, R491). -/
def State.tapStep (s : State) : Option State :=
  if !s.pins.dbgen then some s
  else (if s.inp.nTRST then s else { s with dbg := s.dbg.afterTrst s.freeCtr }).tapCommand s.debugCommand

/-- The instruction in a value scanned onto the data bus: in THUMB state the half that the address selects (61 R494). -/
def State.decodeScan (s : State) (w : Word) : Decoded :=
  if s.cpsr.t then decodeThumb (laneHalf s.pins.bigend w s.pc) else decodeArm w

/-- The state in which a scanned instruction executes: two entries in the queue tell afterwards whether it wrote the PC. -/
def State.armScan (s : State) (w : Word) (data : List Word) : State :=
  { s with pipe := [⟨w, false, false⟩, ⟨w, false, false⟩], dbg := { s.dbg with scanIn := data } }

/-- The state after an instruction at debug speed (61 R496): the PC has advanced by one instruction; after a write of the PC
two scans only refill the pipeline (R494). -/
def State.settleScan (s : State) (bit33 : Bool) : State :=
  { s with
    pipe := []
    dbg :=
      { s.dbg with
        scanned33 := bit33
        executed := s.dbg.executed + 1
        refill := if s.pipe.isEmpty then 2 else 0
        scanIn := [] } }

/-- One scan of chain 1 in debug state (61 R493): a refill; or, when the scan before had bit 33 HIGH, an instruction that
waits for BYPASS or RESTART; or an instruction executed at debug speed. Bit 33 of the waiting instruction's own scan is
dropped when it executes (DESIGN CHOICE, log 79). -/
def State.scanStep (s : State) (bit33 : Bool) (w : Word) (data : List Word) : Result :=
  if s.dbg.refill != 0 then
    .next { s with dbg :=
      { s.dbg with refill := s.dbg.refill - 1, executed := s.dbg.executed + 1, scanned33 := bit33 } }
  else if s.dbg.scanned33 then
    .next { s with dbg := { s.dbg with pending := some w, pendingData := data, scanned33 := bit33 } }
  else
    match s.decodeScan w with
    | .error _ => .refused .debugInstruction
    | .ok i =>
      if debugUse i = .branch || debugUse i = .illegal then .refused .debugInstruction
      else
        match exec i (s.armScan w data) with
        | .next t => .next (t.settleScan bit33)
        | .fault f => .fault f
        | .refused r => .refused r

/-- The state after an instruction at system speed (61 R493, R496): back in debug state, bit 33 HIGH, the PC advanced by
three instructions. After an abort, similar to an aborted watchpoint, the PC is invalid and with it the link of the abort
(R477): both are free (log 23). The instruction scanned next runs at debug speed whatever bit 33 was scanned in with the
access, of which the spec says nothing (DESIGN CHOICE, log 79). -/
def State.settleAccess (s : State) : State :=
  let aborted := s.bus.any fun c => c.aborted
  let u := (s.iceCycles s.bus).2
  { (if aborted then u.setReg .r14Abt (Config.abortedAccessLink s.freeCtr) else u) with
    pc :=
      if aborted then alignPc s.cpsr.t (Config.abortedAccessPc s.freeCtr)
      else if s.pipe.isEmpty then s.pc
      else s.pc + s.instrBytes + s.instrBytes
    pipe := []
    dbg :=
      { u.dbg with
        systemSpeed := false
        captured33 := true
        scanned33 := false
        pending := none
        pendingData := []
        executed := s.dbg.executed + 1
        refill := if !aborted && s.pipe.isEmpty then 2 else 0 } }

/-- The waiting load or store executed at system speed (61 R493). No interrupt is taken during it, where the spec does not say
whether one is while the core's DBGACK is LOW (DESIGN CHOICE, log 71); and no instruction is fetched, where the spec does not
say whether the first cycle is a prefetch (DESIGN CHOICE, log 74). -/
def State.accessStep (s : State) (w : Word) : Result :=
  match s.decodeScan w with
  | .error _ => .refused .debugInstruction
  | .ok i =>
    if debugUse i = .access then
      match exec i { s.armScan w [] with dbg := { s.dbg with systemSpeed := true } } with
      | .next t => .next t.settleAccess
      | .fault f => .fault f
      | .refused r => .refused r
    else .refused .debugInstruction

/-- The waiting branch executed and debug state left (61 R495); at least two instructions must have been executed. The branch is
scanned in with bit 33 LOW; a HIGH one is taken as LOW (DESIGN CHOICE, log 79). -/
def State.leaveStep (s : State) (w : Word) : Result :=
  match s.decodeScan w with
  | .error _ => .refused .debugInstruction
  | .ok i =>
    if 2 ≤ s.dbg.executed && (debugUse i = .branch || debugUse i = .writesPc) then
      match exec i (s.armScan w []) with
      | .next t =>
        .next { t with
          pipe := []
          dbg := { t.dbg with
            active := false, pending := none, pendingData := [], scanned33 := false, executed := 0, refill := 0 } }
      | .fault f => .fault f
      | .refused r => .refused r
    else .refused .debugInstruction

/-- Step 3 of 60 R436: what the debugger's command makes the stopped core do. -/
def State.debugStep (s : State) : Result :=
  match s.debugCommand with
  | .scan bit33 w data => s.scanStep bit33 w data
  | .loadIr ir =>
    match s.dbg.pending with
    | some w => if tapIsBypass ir then s.accessStep w else .next s
    | none => .next s
  | .runTestIdle =>
    if s.dbg.tapIr = tapRestart then
      match s.dbg.pending with
      | some w => s.leaveStep w
      | none => .refused .debugProtocol
    else .next s
  | .idle => .next s
  | .selectChain _ => .next s
  | .iceRead _ => .next s
  | .iceWrite _ _ => .next s
  | .scanDr _ => .next s

end Sys2Proof.Machine
end

