-- ==== Sys2Proof/Machine/Cycle.lean ====
section
/-! DEFINITION. One step of the whole machine, in the order of 60 R436. -/

namespace Sys2Proof.Machine

/-- Bytes that other bus masters wrote (00 R12), addresses modulo 2^32. -/
def Memory.writeCells (m : List Host.Cell) : List Host.Cell → List Host.Cell
  | [] => m
  | (a, v) :: rest => Memory.writeCells (Memory.set m (a % 4294967296) v) rest

/-- The last cycle of a step was a data access with no internal cycle after it: a store, or a coprocessor transfer
(70 R545: STR 2N, STM (n-1)S + 2N, LDC and STC (n-1)S + 2N; SWP and the loads end in an internal cycle). -/
def State.endsInData (s : State) : Bool :=
  match s.bus.getLast?, s.cpLog.getLast? with
  | some c, some (.load _ _ _ _) => !c.fetch
  | some c, _ => !c.fetch && c.write && !c.lock
  | none, _ => false

/-- The next fetch is non-sequential after what came last, on the bus of this step or before it (20 R92, 70 R545, log 73). -/
def State.breaksSequence (s : State) : Bool := s.endsInData || s.nonSeq

/-- The inputs of this step taken from the environment (00 R12, D6), and the records of the step before cleared. -/
def State.beginStep (s : State) : State :=
  let inp := s.env.headD Inputs.inactive
  { s with
    inp := inp
    env := s.env.tail
    mem := Memory.writeCells s.mem inp.memWrites
    pins := { s.pins with abortMap := inp.newAbortMap.getD s.pins.abortMap }
    bus := []
    cpLog := []
    nonSeq := s.breaksSequence
    freeCtr := s.freeCtr + 1
    dbg := { s.dbg with scanIn := [], scanOut := [], iceOut := none, tapOut := none } }

/-- The memory writes that the instruction about to execute would make, oldest first: none where it would stop. -/
def State.writesAhead (s : State) : List BusCycle :=
  match s.decodeNext with
  | .error _ => []
  | .ok i =>
    match exec i s with
    | .next t => t.bus.filter fun c => c.write && !c.aborted
    | .fault _ => []
    | .refused _ => []

/-- The places of those writes hold any value: the instruction may have performed some, all or none of them. -/
def State.abandonWrites (s : State) : List BusCycle → State
  | [] => s
  | c :: rest =>
    State.abandonWrites { s with mem := s.stored c.size c.addr (Config.abandonedWord s.freeCtr rest.length) } rest

/-- What the instruction about to execute could write of the comms channel (61 R499) holds any value. -/
def State.abandonComms (s : State) : Debug :=
  match s.decodeNext with
  | .ok (.mcr c opc crn _ cp info crm) =>
    if condPassed c s.cpsr && s.commsAccepts cp opc info crm && crn = 1#4 then
      { s.dbg with
        commsWrite := Config.abandonedWord s.freeCtr 0
        commsW := Config.abandonedFlag s.freeCtr }
    else s.dbg
  | .ok (.mrc c opc crn _ cp info crm) =>
    if condPassed c s.cpsr && s.commsAccepts cp opc info crm && crn = 1#4 then
      { s.dbg with commsR := Config.abandonedFlag s.freeCtr }
    else s.dbg
  | _ => s.dbg

/-- nRESET goes LOW: the instruction being executed is abandoned (70 R520, 91 N41). What it could write of memory and of the
comms channel holds any value; every register does from the reset entry on (log 46). An external coprocessor is told nothing
of it, where the source is silent (DESIGN CHOICE, log 46). A core that is stuck in an illegal mode, or whose next fetch was
aborted, executes none. -/
def State.abandon (s : State) : State :=
  if legalMode s.cpsr.m && !s.head.aborted then { s.abandonWrites s.writesAhead with dbg := s.abandonComms } else s

/-- One step with nRESET LOW (70 R520): nothing executes; a dummy word fetch, at incrementing word addresses, whose low address
bits are undefined (20 R76, log 25). The fetches begin at the word of the instruction abandoned, where the rule says "from
the point where reset was activated" (DESIGN CHOICE, log 72). Data accesses that the abandoned instruction may have made are
not on the bus record and reach no watchpoint, where the source is silent (91 N41; DESIGN CHOICE, log 46). -/
def State.holdReset (s : State) : State :=
  let u := if s.resetCycles = 0 then s.abandon else s
  let a := s.pc &&& 0xFFFFFFFC#32
  let c := u.busCycle (a ||| u.fetchLow 3#32) .word false true s.privileged false (s.resetCycles != 0)
    (Memory.wordAt s.pins.bigend u.mem a) (s.aborts a .word false true s.privileged)
  { ((u.logCycle c).iceCycle c).2 with
    pc := a + 4#32
    pipe := []
    resetCycles := s.resetCycles + 1 }

/-- The interrupt that steps 5 and 6 of 60 R436 take at the levels given, if any. -/
def State.pendingInterrupt (s : State) (nFIQ nIRQ : Bool) : Option State :=
  if !s.cpsr.f && !nFIQ && s.ifen then some s.takeFiq
  else if !s.cpsr.i && !nIRQ && s.ifen then some s.takeIrq
  else none

/-- The memory cycle that an interrupt's entry begins with (70 R546, Table 55): the fetch two past the instruction that does not
execute, in its mode and state. Where the queue holds that fetch already, because the interrupt breaks off a coprocessor's
busy-wait (46 R297), the entry makes it again (DEDUCED, log 77). -/
def State.entryFetch (s : State) : State :=
  if s.pipe.length < 3 then { s with nonSeq := s.breaksSequence }.fillPipe 3
  else
    let c := s.fetchCycle (s.pc + 2#32 * s.instrBytes) (!s.breaksSequence)
    ((s.logCycle c).iceCycle c).2

/-- The memory cycle that a data abort's entry begins with (70 R546, Table 55): a fetch in the mode and the state of the
aborted instruction, which began in `before`. Its address, two instructions past the next one, is DEDUCED (log 76). -/
def State.abortCycle (s before : State) : BusCycle :=
  { before with bus := s.bus, mem := s.mem }.fetchCycle (before.pc + 3#32 * before.instrBytes) (!s.endsInData)

/-- That cycle on the bus, where a data access was aborted: 60 R458 counts three cycles of entry. What it fetches is
discarded. -/
def State.abortFetch (s before : State) : State :=
  if s.bus.any fun c => !c.fetch && c.aborted then
    ((s.logCycle (s.abortCycle before)).iceCycle (s.abortCycle before)).2
  else s

/-- The end of an instruction that began in the state `before`: ICEBreaker sees its data accesses; the entry of a data abort
begins with its own fetch; the pipeline is refilled where it was emptied; and a watchpointed data access enters debug state
(60 R436, step 10), after the data abort that the instruction took or the interrupt pending at its end, and after the fetch
from that vector (61 R473, R476). The entry to debug state itself makes no memory cycle, of which the spec says nothing
(DESIGN CHOICE, log 78). An instruction that leaves an illegal mode is followed by neither debug state nor an interrupt
(10 R39, U2; DESIGN CHOICE, log 60). -/
def State.endInstruction (s before : State) : State :=
  let data := s.bus.filter fun c => !c.fetch
  let r := s.iceCycles data
  let u := (r.2.abortFetch before).fillPipe 2
  if r.1 && legalMode s.cpsr.m then
    if data.any fun c => c.aborted then u.enterDebugRequest true
    else
      match u.entryFetch.pendingInterrupt s.inp.nFIQEnd s.inp.nIRQEnd with
      | some t => (t.fillPipe 2).enterDebugRequest true
      | none => u.enterDebugBreak true
  else u

/-- Steps 8 to 10 of 60 R436: the instruction about to execute is decoded and executed. -/
def State.executeNext (s : State) : Result :=
  match s.decodeNext with
  | .error e => s.undecodable e
  | .ok i =>
    match exec i s with
    | .next t => .next (t.endInstruction s)
    | .fault f => .fault f
    | .refused r => .refused r

/-- Steps 7 to 10 of 60 R436 on a full queue: the prefetch-abort mark, the breakpoint mark (10 R46, 61 R472), then the
instruction. A breakpoint is taken after this step's fetch, and its entry makes no other (DESIGN CHOICE, log 78). -/
def State.instructionStep (s : State) : Result :=
  if s.head.aborted then .next (s.takePrefetchAbort.fillPipe 2)
  else if s.pins.dbgen && s.head.breakpoint then .next (s.enterDebugBreak false)
  else s.executeNext

/-- Steps 2 to 10 of 60 R436, out of reset. An illegal mode is stuck until reset (10 R39, U2). What bit 33 captures on a debug
request is free (log 66), and that entry makes no memory cycle, of which the spec says nothing (DESIGN CHOICE, log 78). The
first cycle of an instruction, or of an interrupt entry, is the fetch two ahead (70 R546). -/
def State.runStep (s : State) : Result :=
  if !legalMode s.cpsr.m then .next s
  else if s.pins.dbgen && s.dbg.active then s.debugStep
  else if s.pins.dbgen && s.debugRequest then .next (s.enterDebugRequest (Config.requestCapture s.freeCtr))
  else
    match s.entryFetch.pendingInterrupt s.inp.nFIQ s.inp.nIRQ with
    | some t => .next (t.fillPipe 2)
    | none => (s.fillPipe 3).instructionStep

/-- One step: the inputs, the TAP, then 60 R436. Reset comes first (step 1); nRESET LOW for fewer than two steps, or in debug
state, is out of contract (70 R521, R522, U51). -/
def State.cycle (s : State) : Result :=
  match s.beginStep.tapStep with
  | none => .refused .debugProtocol
  | some s =>
    if !s.inp.nRESET then
      if s.pins.dbgen && s.dbg.active then .refused .resetContract else .next s.holdReset
    else if s.resetCycles = 0 then s.runStep
    else if s.resetCycles = 1 then .refused .resetContract
    else .next s.resetEntry

/-- An instruction's bits placed where the next step fetches: a word (ARM state) or a halfword (THUMB state) at the PC, the
queue emptied so that it is fetched. Stands for the loading of a program (D7), log 15. -/
def State.placeInstruction (s : State) (thumb : Bool) (w : Nat) : State :=
  let pc := alignPc thumb s.pc
  { s with
    pc := pc
    cpsr := { s.cpsr with t := thumb }
    pipe := []
    mem :=
      if thumb then Memory.putHalf s.pins.bigend s.mem pc (BitVec.ofNat 16 w)
      else Memory.putWord s.pins.bigend s.mem pc (BitVec.ofNat 32 w) }

end Sys2Proof.Machine
end

