-- ==== Sys2Proof/Machine/Step.lean ====
section
/-! DEFINITION. The step of the machine, and the placing of an instruction where it fetches. -/

namespace Sys2Proof.Machine

/-- One step of the machine (60 R436). -/
def step (s : State) : Host.Outcome State Fault Refusal := s.cycle

/-- `s` with the instruction whose bits are `w` stored where the next step fetches it: THUMB for up to 16 bits, ARM above. -/
def State.withFetchWord (s : State) (nbits w : Nat) : State := s.placeInstruction (nbits ≤ 16) w

end Sys2Proof.Machine
end

