-- ==== Sys2Proof/WellFormed.lean ====
section
/-! DEFINITION. Well-formed instructions: the operand forms to which the spec gives a meaning. A form that
93_implementation_defined.md treats as `refuse` at decode time is not well-formed; the meaning of its instruction
refuses it by name when its condition passes. -/

namespace Sys2Proof

/-- The operand form is one the spec defines (93 U20, U21, U23, U26, U28, U29, U31, U32, U34 to U37, U40, U41). -/
def Instr.wf : Instr → Bool
  | .bx _ rn => rn != 15#4
  | .b _ _ => true
  | .bl _ _ => true
  | .andImm _ _ _ _ _ _ => true
  | .andShift _ _ _ _ _ _ _ => true
  | .andReg _ _ _ _ rs _ _ => rs != 15#4
  | .eorImm _ _ _ _ _ _ => true
  | .eorShift _ _ _ _ _ _ _ => true
  | .eorReg _ _ _ _ rs _ _ => rs != 15#4
  | .subImm _ _ _ _ _ _ => true
  | .subShift _ _ _ _ _ _ _ => true
  | .subReg _ _ _ _ rs _ _ => rs != 15#4
  | .rsbImm _ _ _ _ _ _ => true
  | .rsbShift _ _ _ _ _ _ _ => true
  | .rsbReg _ _ _ _ rs _ _ => rs != 15#4
  | .addImm _ _ _ _ _ _ => true
  | .addShift _ _ _ _ _ _ _ => true
  | .addReg _ _ _ _ rs _ _ => rs != 15#4
  | .adcImm _ _ _ _ _ _ => true
  | .adcShift _ _ _ _ _ _ _ => true
  | .adcReg _ _ _ _ rs _ _ => rs != 15#4
  | .sbcImm _ _ _ _ _ _ => true
  | .sbcShift _ _ _ _ _ _ _ => true
  | .sbcReg _ _ _ _ rs _ _ => rs != 15#4
  | .rscImm _ _ _ _ _ _ => true
  | .rscShift _ _ _ _ _ _ _ => true
  | .rscReg _ _ _ _ rs _ _ => rs != 15#4
  | .tstImm _ _ _ _ _ => true
  | .tstShift _ _ _ _ _ _ => true
  | .tstReg _ _ _ rs _ _ => rs != 15#4
  | .teqImm _ _ _ _ _ => true
  | .teqShift _ _ _ _ _ _ => true
  | .teqReg _ _ _ rs _ _ => rs != 15#4
  | .cmpImm _ _ _ _ _ => true
  | .cmpShift _ _ _ _ _ _ => true
  | .cmpReg _ _ _ rs _ _ => rs != 15#4
  | .cmnImm _ _ _ _ _ => true
  | .cmnShift _ _ _ _ _ _ => true
  | .cmnReg _ _ _ rs _ _ => rs != 15#4
  | .orrImm _ _ _ _ _ _ => true
  | .orrShift _ _ _ _ _ _ _ => true
  | .orrReg _ _ _ _ rs _ _ => rs != 15#4
  | .movImm _ _ _ _ _ _ => true
  | .movShift _ _ _ _ _ _ _ => true
  | .movReg _ _ _ _ rs _ _ => rs != 15#4
  | .bicImm _ _ _ _ _ _ => true
  | .bicShift _ _ _ _ _ _ _ => true
  | .bicReg _ _ _ _ rs _ _ => rs != 15#4
  | .mvnImm _ _ _ _ _ _ => true
  | .mvnShift _ _ _ _ _ _ _ => true
  | .mvnReg _ _ _ _ rs _ _ => rs != 15#4
  | .mrs _ _ rd => rd != 15#4
  | .msrReg _ _ rm => rm != 15#4
  | .msrFlagsReg _ _ rm => rm != 15#4
  | .msrFlagsImm _ _ _ _ => true
  | .mul _ _ rd _ rs rm => rd != 15#4 && rs != 15#4 && rm != 15#4
  | .mla _ _ rd rn rs rm => rd != 15#4 && rn != 15#4 && rs != 15#4 && rm != 15#4
  | .umull _ _ hi lo rs rm => hi != 15#4 && lo != 15#4 && rs != 15#4 && rm != 15#4
  | .umlal _ _ hi lo rs rm => hi != 15#4 && lo != 15#4 && rs != 15#4 && rm != 15#4
  | .smull _ _ hi lo rs rm => hi != 15#4 && lo != 15#4 && rs != 15#4 && rm != 15#4
  | .smlal _ _ hi lo rs rm => hi != 15#4 && lo != 15#4 && rs != 15#4 && rm != 15#4
  | .strImmPre _ _ w rn _ _ => !(w && rn == 15#4)
  | .strImmPost _ _ rn _ _ => rn != 15#4
  | .strtImm _ _ rn _ _ => rn != 15#4
  | .strRegPre _ _ w rn _ _ _ rm => !(w && rn == 15#4) && rm != 15#4
  | .strRegPost _ _ rn _ _ _ rm => rn != 15#4 && rm != 15#4
  | .strtReg _ _ rn _ _ _ rm => rn != 15#4 && rm != 15#4
  | .ldrImmPre _ _ w rn _ _ => !(w && rn == 15#4)
  | .ldrImmPost _ _ rn _ _ => rn != 15#4
  | .ldrtImm _ _ rn _ _ => rn != 15#4
  | .ldrRegPre _ _ w rn _ _ _ rm => !(w && rn == 15#4) && rm != 15#4
  | .ldrRegPost _ _ rn _ _ _ rm => rn != 15#4 && rm != 15#4
  | .ldrtReg _ _ rn _ _ _ rm => rn != 15#4 && rm != 15#4
  | .strbImmPre _ _ w rn _ _ => !(w && rn == 15#4)
  | .strbImmPost _ _ rn _ _ => rn != 15#4
  | .strbtImm _ _ rn _ _ => rn != 15#4
  | .strbRegPre _ _ w rn _ _ _ rm => !(w && rn == 15#4) && rm != 15#4
  | .strbRegPost _ _ rn _ _ _ rm => rn != 15#4 && rm != 15#4
  | .strbtReg _ _ rn _ _ _ rm => rn != 15#4 && rm != 15#4
  | .ldrbImmPre _ _ w rn _ _ => !(w && rn == 15#4)
  | .ldrbImmPost _ _ rn _ _ => rn != 15#4
  | .ldrbtImm _ _ rn _ _ => rn != 15#4
  | .ldrbRegPre _ _ w rn _ _ _ rm => !(w && rn == 15#4) && rm != 15#4
  | .ldrbRegPost _ _ rn _ _ _ rm => rn != 15#4 && rm != 15#4
  | .ldrbtReg _ _ rn _ _ _ rm => rn != 15#4 && rm != 15#4
  | .strhReg _ p _ w rn _ rm => !(!p && w) && !((!p || w) && rn == 15#4) && rm != 15#4
  | .strhImm _ p _ w rn _ _ => !(!p && w) && !((!p || w) && rn == 15#4)
  | .ldrhReg _ p _ w rn _ rm => !(!p && w) && !((!p || w) && rn == 15#4) && rm != 15#4
  | .ldrhImm _ p _ w rn _ _ => !(!p && w) && !((!p || w) && rn == 15#4)
  | .ldrsbReg _ p _ w rn _ rm => !(!p && w) && !((!p || w) && rn == 15#4) && rm != 15#4
  | .ldrsbImm _ p _ w rn _ _ => !(!p && w) && !((!p || w) && rn == 15#4)
  | .ldrshReg _ p _ w rn _ rm => !(!p && w) && !((!p || w) && rn == 15#4) && rm != 15#4
  | .ldrshImm _ p _ w rn _ _ => !(!p && w) && !((!p || w) && rn == 15#4)
  | .stm _ _ _ s w rn list => list != 0#16 && rn != 15#4 && !(s && w)
  | .ldm _ _ _ s w rn list => list != 0#16 && rn != 15#4 && !(s && w && !list.getLsbD 15)
  | .swp _ rn rd rm => rn != 15#4 && rd != 15#4 && rm != 15#4
  | .swpb _ rn rd rm => rn != 15#4 && rd != 15#4 && rm != 15#4
  | .swi _ _ => true
  | .cdp _ _ _ _ _ _ _ => true
  | .stc _ _ _ _ w rn _ _ _ => !(w && rn == 15#4)
  | .ldc _ _ _ _ w rn _ _ _ => !(w && rn == 15#4)
  | .mcr _ _ _ _ _ _ _ => true
  | .mrc _ _ _ _ _ _ _ => true
  | .undef _ _ _ => true
  | .tLslImm _ _ _ => true
  | .tLsrImm _ _ _ => true
  | .tAsrImm _ _ _ => true
  | .tAddReg _ _ _ => true
  | .tSubReg _ _ _ => true
  | .tAddImm3 _ _ _ => true
  | .tSubImm3 _ _ _ => true
  | .tMovImm _ _ => true
  | .tCmpImm _ _ => true
  | .tAddImm8 _ _ => true
  | .tSubImm8 _ _ => true
  | .tAnd _ _ => true
  | .tEor _ _ => true
  | .tLslReg _ _ => true
  | .tLsrReg _ _ => true
  | .tAsrReg _ _ => true
  | .tAdc _ _ => true
  | .tSbc _ _ => true
  | .tRorReg _ _ => true
  | .tTst _ _ => true
  | .tNeg _ _ => true
  | .tCmp _ _ => true
  | .tCmn _ _ => true
  | .tOrr _ _ => true
  | .tMul _ _ => true
  | .tBic _ _ => true
  | .tMvn _ _ => true
  | .tAddLoHi _ _ => true
  | .tAddHiLo _ _ => true
  | .tAddHiHi _ _ => true
  | .tAddLoLo _ _ => false
  | .tCmpLoHi _ _ => true
  | .tCmpHiLo _ _ => true
  | .tCmpHiHi _ _ => true
  | .tCmpLoLo _ _ => false
  | .tMovLoHi _ _ => true
  | .tMovHiLo _ _ => true
  | .tMovHiHi _ _ => true
  | .tMovLoLo _ _ => false
  | .tBxLo _ _ => true
  | .tBxHi _ _ => true
  | .tBxH1 _ _ _ => false
  | .tLdrPc _ _ => true
  | .tStrReg _ _ _ => true
  | .tStrbReg _ _ _ => true
  | .tLdrReg _ _ _ => true
  | .tLdrbReg _ _ _ => true
  | .tStrhReg _ _ _ => true
  | .tLdrhReg _ _ _ => true
  | .tLdsbReg _ _ _ => true
  | .tLdshReg _ _ _ => true
  | .tStrImm _ _ _ => true
  | .tLdrImm _ _ _ => true
  | .tStrbImm _ _ _ => true
  | .tLdrbImm _ _ _ => true
  | .tStrhImm _ _ _ => true
  | .tLdrhImm _ _ _ => true
  | .tStrSp _ _ => true
  | .tLdrSp _ _ => true
  | .tAddPc _ _ => true
  | .tAddSp _ _ => true
  | .tAddSpPos _ => true
  | .tAddSpNeg _ => true
  | .tPush list => list != 0#8
  | .tPushLr _ => true
  | .tPop list => list != 0#8
  | .tPopPc _ => true
  | .tStmia _ list => list != 0#8
  | .tLdmia _ list => list != 0#8
  | .tBeq _ => true
  | .tBne _ => true
  | .tBcs _ => true
  | .tBcc _ => true
  | .tBmi _ => true
  | .tBpl _ => true
  | .tBvs _ => true
  | .tBvc _ => true
  | .tBhi _ => true
  | .tBls _ => true
  | .tBge _ => true
  | .tBlt _ => true
  | .tBgt _ => true
  | .tBle _ => true
  | .tUndefCond _ => true
  | .tSwi _ => true
  | .tB _ => true
  | .tBlHigh _ => true
  | .tBlLow _ => true
  | .tUndefB1 _ => true
  | .tUndefB2 _ => true
  | .tUndefB6 _ => true
  | .tUndefB8 _ => true
  | .tUndefBe _ => true
  | .tUndefE8 _ => true

end Sys2Proof
end

