-- ==== Sys2Proof/Safety.lean ====
section
/-! DEFINITION. What the statements speak of: the invariant of a machine state, what an instruction leaves alone, the
instructions of one shape under one name, and the results that the spec's tables give, written independently of the
meanings. -/

namespace Sys2Proof

open Sys2Proof.Machine

/-! ### Results by the spec's tables -/

/-- The operations that 41 R180 calls logical. -/
def AluOp.isLogical : AluOp → Bool
  | .and | .eor | .orr | .mov | .bic | .mvn => true
  | .sub | .rsb | .add | .adc | .sbc | .rsc => false

/-- The result column of Table 7 (41 R179, R182 to R197), with the carry flag as a number. -/
def AluOp.result (op : AluOp) (a b : Word) (c : Bool) : Word :=
  match op with
  | .and => a &&& b
  | .eor => a ^^^ b
  | .sub => a - b
  | .rsb => b - a
  | .add => a + b
  | .adc => a + b + BitVec.ofNat 32 c.toNat
  | .sbc => a - b + BitVec.ofNat 32 c.toNat - 1#32
  | .rsc => b - a + BitVec.ofNat 32 c.toNat - 1#32
  | .orr => a ||| b
  | .mov => b
  | .bic => a &&& ~~~b
  | .mvn => ~~~b

/-- The carry of an arithmetic operation (41 R181): the carry out of bit 31 of a sum, no borrow of a difference. -/
def AluOp.carries (op : AluOp) (a b : Word) (c : Bool) : Prop :=
  match op with
  | .add => 4294967296 ≤ a.toNat + b.toNat
  | .adc => 4294967296 ≤ a.toNat + b.toNat + c.toNat
  | .sub => b.toNat ≤ a.toNat
  | .sbc => b.toNat + 1 ≤ a.toNat + c.toNat
  | .rsb => a.toNat ≤ b.toNat
  | .rsc => a.toNat + 1 ≤ b.toNat + c.toNat
  | _ => False

/-- The exact signed result of an arithmetic operation. -/
def AluOp.exact (op : AluOp) (a b : Word) (c : Bool) : Int :=
  match op with
  | .add => a.toInt + b.toInt
  | .adc => a.toInt + b.toInt + c.toNat
  | .sub => a.toInt - b.toInt
  | .sbc => a.toInt - b.toInt + c.toNat - 1
  | .rsb => b.toInt - a.toInt
  | .rsc => b.toInt - a.toInt + c.toNat - 1
  | _ => 0

/-- The operation whose flags a test sets (41 R190 to R193). -/
def TestOp.alu : TestOp → AluOp
  | .tst => .and
  | .teq => .eor
  | .cmp => .sub
  | .cmn => .add

/-- The exact value that a long multiply reduces modulo 2^64 (43 R229 to R232), from Rm, Rs and the accumulator. -/
def LongOp.exact (op : LongOp) (m r : Word) (acc : BitVec 64) : Int :=
  match op with
  | .umull => m.toNat * r.toNat
  | .umlal => m.toNat * r.toNat + acc.toNat
  | .smull => m.toInt * r.toInt
  | .smlal => m.toInt * r.toInt + acc.toInt

/-! ### Instructions of one shape, by what they do -/

/-- The loads of THUMB Formats 6 to 11 (48_thumb_load_store.md): the kind, the destination and the address. -/
def Instr.thumbLoad (s : State) : Instr → Option (LoadKind × LoReg × Word)
  | .tLdrPc rd imm => some (.word, rd, ((s.pc + 4#32) &&& 0xFFFFFFFC#32) + 4#32 * imm.setWidth 32)
  | .tLdrReg ro rb rd => some (.word, rd, s.operand (loReg rb) + s.operand (loReg ro))
  | .tLdrbReg ro rb rd => some (.byte, rd, s.operand (loReg rb) + s.operand (loReg ro))
  | .tLdrhReg ro rb rd => some (.half, rd, s.operand (loReg rb) + s.operand (loReg ro))
  | .tLdsbReg ro rb rd => some (.signedByte, rd, s.operand (loReg rb) + s.operand (loReg ro))
  | .tLdshReg ro rb rd => some (.signedHalf, rd, s.operand (loReg rb) + s.operand (loReg ro))
  | .tLdrImm off rb rd => some (.word, rd, s.operand (loReg rb) + 4#32 * off.setWidth 32)
  | .tLdrbImm off rb rd => some (.byte, rd, s.operand (loReg rb) + off.setWidth 32)
  | .tLdrhImm off rb rd => some (.half, rd, s.operand (loReg rb) + 2#32 * off.setWidth 32)
  | .tLdrSp rd imm => some (.word, rd, s.operand 13#4 + 4#32 * imm.setWidth 32)
  | _ => none

/-- The stores of THUMB Formats 7 to 11 (48_thumb_load_store.md): the size, the stored register and the address. -/
def Instr.thumbStore (s : State) : Instr → Option (Size × LoReg × Word)
  | .tStrReg ro rb rd => some (.word, rd, s.operand (loReg rb) + s.operand (loReg ro))
  | .tStrbReg ro rb rd => some (.byte, rd, s.operand (loReg rb) + s.operand (loReg ro))
  | .tStrhReg ro rb rd => some (.half, rd, s.operand (loReg rb) + s.operand (loReg ro))
  | .tStrImm off rb rd => some (.word, rd, s.operand (loReg rb) + 4#32 * off.setWidth 32)
  | .tStrbImm off rb rd => some (.byte, rd, s.operand (loReg rb) + off.setWidth 32)
  | .tStrhImm off rb rd => some (.half, rd, s.operand (loReg rb) + 2#32 * off.setWidth 32)
  | .tStrSp rd imm => some (.word, rd, s.operand 13#4 + 4#32 * imm.setWidth 32)
  | _ => none

/-- Format 5 ADD (47 R348): the destination, which is the first operand, and the second operand. -/
def Instr.hiAdd : Instr → Option (Reg × Reg)
  | .tAddLoHi rs rd => some (loReg rd, hiReg rs)
  | .tAddHiLo rs rd => some (hiReg rd, loReg rs)
  | .tAddHiHi rs rd => some (hiReg rd, hiReg rs)
  | _ => none

/-- Format 5 CMP (47 R349): the two operands. -/
def Instr.hiCmp : Instr → Option (Reg × Reg)
  | .tCmpLoHi rs rd => some (loReg rd, hiReg rs)
  | .tCmpHiLo rs rd => some (hiReg rd, loReg rs)
  | .tCmpHiHi rs rd => some (hiReg rd, hiReg rs)
  | _ => none

/-- Format 5 MOV (47 R350): the destination and the source. -/
def Instr.hiMov : Instr → Option (Reg × Reg)
  | .tMovLoHi rs rd => some (loReg rd, hiReg rs)
  | .tMovHiLo rs rd => some (hiReg rd, loReg rs)
  | .tMovHiHi rs rd => some (hiReg rd, hiReg rs)
  | _ => none

/-- The coprocessor number of a coprocessor instruction (46 R294). -/
def Instr.coprocessor : Instr → Option (BitVec 4)
  | .cdp _ _ _ _ cp _ _ => some cp
  | .stc _ _ _ _ _ _ _ cp _ => some cp
  | .ldc _ _ _ _ _ _ _ cp _ => some cp
  | .mcr _ _ _ _ cp _ _ => some cp
  | .mrc _ _ _ _ cp _ _ => some cp
  | _ => none

/-- The register transfers that the debug comms channel accepts (61 R499, D22): MRC p14,0,Rd,c0,c0, MRC p14,0,Rd,c1,c0 and
MCR p14,0,Rd,c1,c0. -/
def Instr.commsForm : Instr → Bool
  | .mcr _ opc crn _ cp info crm => cp = 14#4 && opc = 0#3 && crn = 1#4 && info = 0#3 && crm = 0#4
  | .mrc _ opc crn _ cp info crm => cp = 14#4 && opc = 0#3 && (crn = 0#4 || crn = 1#4) && info = 0#3 && crm = 0#4
  | _ => false

/-- The THUMB halfwords that take the Undefined instruction trap (30 R131, 49 R412; D19). -/
def Instr.thumbUndefined : Instr → Bool
  | .tUndefCond _ => true
  | .tUndefB1 _ => true
  | .tUndefB2 _ => true
  | .tUndefB6 _ => true
  | .tUndefB8 _ => true
  | .tUndefBe _ => true
  | .tUndefE8 _ => true
  | _ => false

/-- A load multiple as the manual's ARM equivalents give it (45 R265, 48 R396, R397, R400): P, U, W, the base, the list. -/
def Instr.loadsMany : Instr → Option (Bool × Bool × Bool × Reg × BitVec 16)
  | .ldm _ p u false w rn list => some (p, u, w, rn, list)
  | .tPop list => some (false, true, true, 13#4, loList list)
  | .tPopPc list => some (false, true, true, 13#4, loList list ||| 0x8000#16)
  | .tLdmia rb list => some (false, true, true, loReg rb, loList list)
  | _ => none

/-- A store multiple (45 R265, 48 R394, R395, R399). -/
def Instr.storesMany : Instr → Option (Bool × Bool × Bool × Reg × BitVec 16)
  | .stm _ p u false w rn list => some (p, u, w, rn, list)
  | .tPush list => some (true, false, true, 13#4, loList list)
  | .tPushLr list => some (true, false, true, 13#4, loList list ||| 0x4000#16)
  | .tStmia rb list => some (false, true, true, loReg rb, loList list)
  | _ => none

/-- The condition of an ARM instruction passes; a THUMB instruction has none. -/
def Instr.passes (i : Instr) (s : State) : Prop := ∀ c : Cond, i.cond? = some c → condPassed c s.cpsr = true

end Sys2Proof

namespace Sys2Proof.Machine

/-! ### Invariant -/

/-- The PC is aligned for the state (10 R32). -/
def State.pcAligned (s : State) : Prop := alignPc s.cpsr.t s.pc = s.pc

/-- Memory has its one form, the PC is aligned for the state (10 R32), and at most the instruction at the PC and the two
after it are prefetched (10 R45). -/
def State.Inv (s : State) : Prop := Memory.wf s.mem = true ∧ s.pcAligned ∧ s.pipe.length ≤ 3

/-! ### What a step adds around an instruction -/

/-- The parts of the debug state that ICEBreaker's view of a memory cycle writes: the CHAINOUT latch and the RANGEOUT pins
(61 R483, R484). -/
def Debug.seen (g : Debug) (chain range0 range1 : Bool) : Debug :=
  { g with chainOut := chain, rangeOut0 := range0, rangeOut1 := range1 }

/-- The instruction `k` places after the PC as a fetch in this state finds it, with DBGEN LOW: its opcode and its
prefetch-abort mark (10 R45, R46, 20 R76, R77). -/
def State.fetched (s : State) (k : Nat) : Slot :=
  let a := s.pc + BitVec.ofNat 32 k * s.instrBytes
  ⟨s.opcodeAt a, s.aborts a (if s.cpsr.t then .half else .word) false true s.privileged, false⟩

/-- `c` is the fetch of the instruction `k` places after the PC as the pins show it in this state (20 R76, R77, R83, R84, 10
R42); the low address bits are free (log 25). -/
def State.fetches (s : State) (c : BusCycle) (k : Nat) : Prop :=
  c.fetch = true ∧ c.write = false ∧ c.priv = s.privileged ∧ c.size = (if s.cpsr.t then .half else .word) ∧
    c.lock = false ∧ c.tbit = s.cpsr.t ∧ c.nM = ~~~s.cpsr.m ∧ c.aborted = (s.fetched k).aborted ∧
    c.addr ||| (if s.cpsr.t then 1#32 else 3#32) =
      (s.pc + BitVec.ofNat 32 k * s.instrBytes) ||| (if s.cpsr.t then 1#32 else 3#32)

/-- A field of a watchpoint unit matches (61 R481): each bit is masked or equal. -/
def matchesField {n : Nat} (value mask x : BitVec n) : Prop :=
  ∀ k < n, mask.getLsbD k = true ∨ value.getLsbD k = x.getLsbD k

/-- The half of the data bus that a THUMB fetch leaves unused, which is not compared (20 R77, Table 32; 61 R481). -/
def BusCycle.unused (c : BusCycle) (big : Bool) : Word :=
  if c.fetch = true ∧ c.size = .half then (if c.addr.getLsbD 1 = big then 0xFFFF0000#32 else 0x0000FFFF#32) else 0#32

/-- The control bus C[4:0] of 61 R483: nRW, MAS[1:0], nOPC, nTRANS from bit 0 up. -/
def BusCycle.controlBus (c : BusCycle) : BitVec 5 :=
  BitVec.ofBool c.priv ++ (BitVec.ofBool (!c.fetch) ++
    ((match c.size with
      | .byte => 0#2
      | .half => 1#2
      | .word => 2#2) ++ BitVec.ofBool c.write))

/-- `AC` of 61 R484: the address and the bus control match. -/
def Watchpoint.accessMatch (w : Watchpoint) (c : BusCycle) : Prop :=
  matchesField w.addrValue w.addrMask c.addr ∧
    matchesField (w.ctrlValue.extractLsb' 0 5) (w.ctrlMask.extractLsb' 0 5) c.controlBus

/-- `UnitMatch` of 61 R483: address, data and the eight control bits match, with the unit's RANGE, CHAIN and EXTERN. -/
def Watchpoint.unitMatch (w : Watchpoint) (big : Bool) (c : BusCycle) (range chain extern : Bool) : Prop :=
  matchesField w.addrValue w.addrMask c.addr ∧ matchesField w.dataValue (w.dataMask ||| c.unused big) c.data ∧
    matchesField (w.ctrlValue.extractLsb' 0 8) w.ctrlMask
      (BitVec.ofBool range ++ (BitVec.ofBool chain ++ (BitVec.ofBool extern ++ c.controlBus)))

/-- The instruction `k` places after the PC: as the queue holds it, or else as a fetch finds it (20 R88). -/
def State.slot (s : State) (k : Nat) : Slot := s.pipe.getD k (s.fetched k)

/-! ### What an instruction leaves alone -/

/-- The general registers that a register number names for writing: none for R15, which is the PC. -/
def State.dest (s : State) (r : Reg) : List PReg := if r = 15#4 then [] else [physReg s.cpsr.m r]

/-- Every general register but those of a list keeps its value. -/
def State.keepsRegs (s t : State) (ps : List PReg) : Prop := ∀ p : PReg, p ∉ ps → t.getReg p = s.getReg p

/-- Every byte of memory reads as before. -/
def State.keepsMem (s t : State) : Prop := ∀ a : Nat, Memory.get t.mem a = Memory.get s.mem a

/-- The byte at `a` belongs to the access of a size at an address: the byte, the halfword or the word that contains it. -/
def Size.touches (z : Size) (addr : Word) (a : Nat) : Prop :=
  match z with
  | .byte => a = addr.toNat
  | .half => a / 2 = addr.toNat / 2
  | .word => a / 4 = addr.toNat / 4

/-- Every byte of memory but those of one access reads as before. -/
def State.keepsMemBut (s t : State) (z : Size) (addr : Word) : Prop :=
  ∀ a : Nat, ¬ z.touches addr a → Memory.get t.mem a = Memory.get s.mem a

/-- The saved status registers, the debug state and the pins are as before. -/
def State.keepsSystem (s t : State) : Prop := t.spsrs = s.spsrs ∧ t.dbg = s.dbg ∧ t.pins = s.pins

/-- The frame of an instruction that stores nothing: registers but those of a list, memory, saved status registers, debug
state and pins. -/
def State.frame (s t : State) (ps : List PReg) : Prop := s.keepsRegs t ps ∧ s.keepsMem t ∧ s.keepsSystem t

/-- The control bits of a status register are as before. -/
def Psr.keepsControl (p q : Psr) : Prop := q.i = p.i ∧ q.f = p.f ∧ q.t = p.t ∧ q.m = p.m

/-- The instruction writes `v` to a register other than R15, leaves the status register `q`, changes nothing else and goes
on to the next instruction. -/
def State.sets (s t : State) (rd : Reg) (v : Word) (q : Psr) : Prop :=
  t.getReg (physReg s.cpsr.m rd) = v ∧ t.cpsr = q ∧ t.pc = s.pc + s.instrBytes ∧ s.frame t [physReg s.cpsr.m rd]

/-- The instruction leaves the status register `q`, changes nothing else and goes on to the next instruction. -/
def State.setsFlags (s t : State) (q : Psr) : Prop :=
  t.cpsr = q ∧ t.pc = s.pc + s.instrBytes ∧ s.frame t []

/-- The instruction goes on at `v`, aligned for the state that the status register `q` selects, with the pipeline emptied,
and changes nothing else. -/
def State.jumps (s t : State) (v : Word) (q : Psr) : Prop :=
  t.cpsr = q ∧ t.pc = (if q.t then v &&& 0xFFFFFFFE#32 else v &&& 0xFFFFFFFC#32) ∧ t.pipe = [] ∧ s.frame t []

/-! ### Instructions of one shape -/

/-- A result-writing data processing instruction with any form of operand 2. -/
def aluInstr (op : AluOp) (c : Cond) (sf : Bool) (rn rd : Reg) : Op2 → Instr
  | .imm rot imm => .aluImm op c sf rn rd rot imm
  | .shift amt ty rm => .aluShift op c sf rn rd amt ty rm
  | .reg rs ty rm => .aluReg op c sf rn rd rs ty rm

/-- A test with any form of operand 2. -/
def testInstr (op : TestOp) (c : Cond) (rn rd : Reg) : Op2 → Instr
  | .imm rot imm => .testImm op c rn rd rot imm
  | .shift amt ty rm => .testShift op c rn rd amt ty rm
  | .reg rs ty rm => .testReg op c rn rd rs ty rm

/-- The indexing of a single data transfer (44 R236, R243): P and W. -/
inductive Index where
  /-- Pre-indexed without write-back. -/
  | offset
  /-- Pre-indexed with write-back. -/
  | pre
  /-- Post-indexed. -/
  | post
  /-- Post-indexed with W = 1: the T forms. -/
  | translated
  deriving DecidableEq, Repr

/-- The offset is applied before the transfer. -/
def Index.before : Index → Bool
  | .offset => true
  | .pre => true
  | .post => false
  | .translated => false

/-- The base is written back. -/
def Index.writesBack : Index → Bool
  | .offset => false
  | .pre => true
  | .post => true
  | .translated => true

/-- The privilege of the access: User for the T forms (44 R243). -/
def Index.privileged (x : Index) (s : State) : Bool :=
  match x with
  | .translated => false
  | _ => s.privileged

/-- A single word or byte transfer, with any indexing and offset. -/
def sdtInstr (op : SdtOp) (c : Cond) (x : Index) (u : Bool) (rn rd : Reg) (o : Offset) : Instr :=
  match x, o with
  | .offset, .imm off => .sdtImmPre op c u false rn rd off
  | .offset, .reg amt ty rm => .sdtRegPre op c u false rn rd amt ty rm
  | .pre, .imm off => .sdtImmPre op c u true rn rd off
  | .pre, .reg amt ty rm => .sdtRegPre op c u true rn rd amt ty rm
  | .post, .imm off => .sdtImmPost op c u rn rd off
  | .post, .reg amt ty rm => .sdtRegPost op c u rn rd amt ty rm
  | .translated, .imm off => .sdtTImm op c u rn rd off
  | .translated, .reg amt ty rm => .sdtTReg op c u rn rd amt ty rm

/-- A halfword or signed transfer with any offset. -/
def hdtInstr (op : HdtOp) (c : Cond) (p u w : Bool) (rn rd : Reg) : HalfOffset → Instr
  | .imm off => .hdtImm op c p u w rn rd off
  | .reg rm => .hdtReg op c p u w rn rd rm

/-! ### Words without an instruction -/

/-- The sets U5a to U5f of 30 R112, and the signed stores of 44 R258, by the bits of those tables. -/
def unallocatedArm (w : BitVec 32) : Bool :=
  let top := w.extractLsb' 25 3
  let mul := top == 0#3 && w.extractLsb' 4 4 == 9#4
  let half := top == 0#3 && w.getLsbD 7 && w.getLsbD 4 && w.extractLsb' 5 2 != 0#2
  let test := w.extractLsb' 23 2 == 2#2 && !w.getLsbD 20
  (mul && w.extractLsb' 23 2 == 2#2 && !(w.extractLsb' 20 2 == 0#2 && w.extractLsb' 8 4 == 0#4)) ||
  (mul && w.extractLsb' 23 2 == 3#2) ||
  (mul && w.extractLsb' 22 3 == 1#3) ||
  (half && !w.getLsbD 22 && w.extractLsb' 8 4 != 0#4) ||
  (half && !w.getLsbD 20 && w.getLsbD 6) ||
  (top == 0#3 && !(w.getLsbD 7 && w.getLsbD 4) && test && !(w.extractLsb' 4 24 == 0x12FFF1#24) &&
    !(w.extractLsb' 16 6 == 0x0F#6 && w.extractLsb' 0 12 == 0#12) &&
    !(w.extractLsb' 12 10 == 0x29F#10 && w.extractLsb' 4 8 == 0#8) &&
    !(w.extractLsb' 12 10 == 0x28F#10 && w.extractLsb' 4 8 == 0#8)) ||
  (top == 1#3 && test && !(w.extractLsb' 12 10 == 0x28F#10))

/-! ### Results by the spec's tables -/

/-- A signed value is outside the 32-bit range: what sets V (41 R181). -/
def overflows (x : Int) : Prop := x < -2147483648 ∨ 2147483647 < x

/-- `t` is in the data abort handler, entered from `s` (60 R431, R440 to R442): the link is 8 past the instruction. That I is
set is decision D20 (log 32). -/
def State.inDataAbort (s t : State) : Prop :=
  t.pc = 0x10#32 ∧ t.cpsr = { s.cpsr with m := 0b10111#5, t := false, i := true } ∧ t.spsr = some s.cpsr ∧
    t.getReg .r14Abt = s.pc + 8#32 ∧ t.pipe = []

/-- `t` has the registers, status registers and memory of `s`. -/
def State.sameCore (s t : State) : Prop :=
  t.regs = s.regs ∧ t.cpsr = s.cpsr ∧ t.spsrs = s.spsrs ∧ t.mem = s.mem

/-- The TAP is idle in the step that begins here: with DBGEN = 1, nTRST is HIGH and the debugger gives no command. -/
def State.tapIdle (s : State) : Prop :=
  s.pins.dbgen = true → (s.env.headD Inputs.inactive).nTRST = true ∧ (s.env.headD Inputs.inactive).dbg = .idle

/-- The core runs in the step that begins here: out of reset, in a legal mode, outside debug state, with the TAP idle and no
debug request (60 R436, steps 1 to 4). -/
def State.running (s : State) : Prop :=
  legalMode s.cpsr.m = true ∧ s.resetCycles = 0 ∧ (s.env.headD Inputs.inactive).nRESET = true ∧ s.tapIdle ∧
    (s.pins.dbgen = true → s.dbg.active = false ∧ s.dbg.dbgrqLatch = false ∧ (s.env.headD Inputs.inactive).dbgrq = false)

/-- No interrupt is taken in the step that begins here: each is masked, HIGH, or disabled by INTDIS (60 R436, 61 R490). -/
def State.quiet (s : State) : Prop :=
  (s.pins.dbgen = true ∧ s.dbg.intdis = true) ∨
    ((s.cpsr.f = true ∨ (s.env.headD Inputs.inactive).nFIQ = true) ∧
      (s.cpsr.i = true ∨ (s.env.headD Inputs.inactive).nIRQ = true))

/-- The status register after a logical operation (41 R180): N and Z from the result, C from the shifter, V unchanged. -/
def Psr.afterLogical (p : Psr) (r : Word) (carry : Bool) : Psr :=
  { p with n := r.getLsbD 31, z := r == 0#32, c := carry }

/-- `q` is the status register after an arithmetic operation on `a` and `b` (41 R181): N and Z from the result, C the carry,
V set where the exact signed result is outside the 32-bit range; the control bits unchanged. -/
def Psr.afterArith (p q : Psr) (op : AluOp) (a b : Word) : Prop :=
  q.n = (op.result a b p.c).getLsbD 31 ∧ q.z = (op.result a b p.c == 0#32) ∧ (q.c = true ↔ op.carries a b p.c) ∧
    (q.v = true ↔ overflows (op.exact a b p.c)) ∧ p.keepsControl q

/-- What a load of each kind brings (20 R66 to R69, 44 R254 to R257): a word rotated right by 8 bits for each byte of
misalignment, a byte or an aligned halfword zero- or sign-extended. -/
def LoadKind.loaded (k : LoadKind) (big : Bool) (m : List Host.Cell) (a : Word) : Word :=
  match k with
  | .word => (Memory.wordAt big m a).rotateRight (8 * (a.toNat % 4))
  | .byte => (Memory.byteAt m a).setWidth 32
  | .half => (Memory.halfAt big m a).setWidth 32
  | .signedByte => (Memory.byteAt m a).signExtend 32
  | .signedHalf => (Memory.halfAt big m a).signExtend 32

/-- The access is a halfword at an odd address, which the manual calls unpredictable (20 R70, R73). -/
def oddHalf (z : Size) (a : Word) : Bool := z == .half && a.getLsbD 0

/-- Memory holds, at an address, what a store of each size puts there (20 R71 to R73). -/
def Size.holds (z : Size) (big : Bool) (m : List Host.Cell) (a v : Word) : Prop :=
  match z with
  | .byte => Memory.byteAt m a = v.extractLsb' 0 8
  | .half => Memory.halfAt big m a = v.extractLsb' 0 16
  | .word => Memory.wordAt big m a = v

/-- How many registers of a list stand before one (45 R268). -/
def rankIn (list : BitVec 16) (r : Reg) : Nat := ((List.range r.toNat).filter fun k => list.getLsbD k).length

/-- The address of a register of a block transfer: four bytes for each register before it, from the lowest address
(45 R267, R268). -/
def blockAddress (p u : Bool) (base : Word) (list : BitVec 16) (r : Reg) : Word :=
  blockStart p u base (listBytes list) + BitVec.ofNat 32 (4 * rankIn list r)

end Sys2Proof.Machine
end

