-- ==== Sys2Proof/Certificates/Slice0/Obligations.lean ====
section
/-! DEFINITION. The statements for the provers, each a proposition about the model, from the numbered rules of spec/. -/

open Sys2Proof Sys2Proof.Machine

/-! ### Encoding -/

/-- Decoding the encoding of any instruction gives that instruction back (30 R103, R121, and the encoding tables): no bit
of an encoding is dropped. -/
def Obligations.DecodeOfEncode : Prop := ∀ i : Instr, decode (encode i) = .ok i

/-- A word or halfword that decodes is the encoding of what it decodes to: every word has one meaning and every instruction
one encoding. -/
def Obligations.EncodeOfDecode : Prop := ∀ (c : Code) (i : Instr), decode c = .ok i → encode i = c

/-- The spec's example words decode to the instructions it writes beside them (40 R165; 41 R186, R191, R194, R200; 45 R280; 46
R293; 49 R413; 61 R494). The manual itself prints only 0xEAFFFFFE, 0xE0802000 and 0xE1826001; the others are the spec's
own encodings of the manual's assembler lines. -/
def Obligations.ExampleWordsDecode : Prop :=
  decodeArm 0xEAFFFFFE#32 = .ok (.b .al 0xFFFFFE#24) ∧
  decodeArm 0xE0802000#32 = .ok (.addShift .al false 0#4 2#4 0#5 .lsl 0#4) ∧
  decodeArm 0xE1826001#32 = .ok (.orrShift .al false 2#4 6#4 0#5 .lsl 1#4) ∧
  decodeArm 0xE3340003#32 = .ok (.teqImm .al 4#4 0#4 0#4 3#8) ∧
  decodeArm 0xE0454237#32 = .ok (.subReg .al false 5#4 4#4 2#4 .lsr 7#4) ∧
  decodeArm 0xE1B0F00E#32 = .ok (.movShift .al true 0#4 15#4 0#5 .lsl 14#4) ∧
  decodeArm 0x1F000000#32 = .ok (.swi .ne 0#24) ∧
  decodeArm 0xE880FFFF#32 = .ok (.stm .al false true false false 0#4 0xFFFF#16) ∧
  decodeThumb 0x4778#16 = .ok (.tBxHi 7#3 0#3) ∧
  decodeThumb 0x4678#16 = .ok (.tMovLoHi 7#3 0#3) ∧
  decodeThumb 0x6000#16 = .ok (.tStrImm 0#5 0#3 0#3) ∧
  decodeThumb 0xDF12#16 = .ok (.tSwi 0x12#8)

/-- The words without an instruction: condition 1111 (30 R105), and exactly the unallocated sets of 30 R112 with the signed
stores of 44 R258; every THUMB halfword has an instruction (30 R121). -/
def Obligations.WordsWithoutInstruction : Prop :=
  (∀ w : BitVec 32, w.extractLsb' 28 4 = 15#4 → decodeArm w = .error .reservedCondition) ∧
  (∀ w : BitVec 32, w.extractLsb' 28 4 ≠ 15#4 → ((∃ i : Instr, decodeArm w = .ok i) ↔ unallocatedArm w = false)) ∧
  (∀ h : BitVec 16, ∃ i : Instr, decodeThumb h = .ok i)

/-! ### The whole machine -/

/-- The condition field (30 R104): the fifteen predicates of Table 6; and an ARM instruction of any kind whose condition
fails changes no state except the PC, which advances by 4. -/
def Obligations.ConditionField : Prop :=
  (∀ p : Psr,
    (condPassed .eq p = true ↔ p.z = true) ∧ (condPassed .ne p = true ↔ p.z = false) ∧
    (condPassed .cs p = true ↔ p.c = true) ∧ (condPassed .cc p = true ↔ p.c = false) ∧
    (condPassed .mi p = true ↔ p.n = true) ∧ (condPassed .pl p = true ↔ p.n = false) ∧
    (condPassed .vs p = true ↔ p.v = true) ∧ (condPassed .vc p = true ↔ p.v = false) ∧
    (condPassed .hi p = true ↔ p.c = true ∧ p.z = false) ∧ (condPassed .ls p = true ↔ p.c = false ∨ p.z = true) ∧
    (condPassed .ge p = true ↔ p.n = p.v) ∧ (condPassed .lt p = true ↔ p.n ≠ p.v) ∧
    (condPassed .gt p = true ↔ p.z = false ∧ p.n = p.v) ∧ (condPassed .le p = true ↔ p.z = true ∨ p.n ≠ p.v) ∧
    condPassed .al p = true) ∧
  (∀ (i : Instr) (c : Cond) (s : State), i.cond? = some c → condPassed c s.cpsr = false → s.cpsr.t = false →
    exec i s = .next { s with pc := s.pc + 4#32, pipe := s.pipe.tail, hazard := false })

/-- No well-formed instruction is refused, in any state: it goes on, or faults by one of the five run-time conditions that
93_implementation_defined.md lists (U1, U6, U11, U33, U42). -/
def Obligations.WellFormedRuns : Prop :=
  ∀ (i : Instr) (s : State), i.wf = true →
    (∃ t : State, exec i s = .next t) ∨ exec i s = .fault .stateBitChanged ∨ exec i s = .fault .noSpsr ∨
      exec i s = .fault .oddHalfwordStore ∨ exec i s = .fault .userBankInUserMode ∨ exec i s = .fault .bxPcMisaligned

/-- A form that 93_implementation_defined.md treats as `refuse` (U20, U21, U23, U26, U28, U29, U31, U32, U34 to U37, U40, U41)
is refused when its condition passes. -/
def Obligations.ExcludedFormsRefused : Prop :=
  ∀ (i : Instr) (s : State), i.wf = false → i.passes s → ∃ r : Refusal, exec i s = .refused r

/-- The excluded THUMB Format 5 combinations (47 R353): the halfwords 0x4400 to 0x443F, 0x4500 to 0x453F and 0x4600 to 0x463F
are ADD, CMP and MOV with H1 = H2 = 0, and 0x4780 to 0x47FF are BX with H1 = 1; each of these instructions stops in every
state, and takes no trap; and the example encodings of the section. -/
def Obligations.ExcludedHiFormsStop : Prop :=
  (∀ h : BitVec 16, 0x4400 ≤ h.toNat → h.toNat ≤ 0x443F → ∃ rs rd : LoReg, decodeThumb h = .ok (.tAddLoLo rs rd)) ∧
  (∀ h : BitVec 16, 0x4500 ≤ h.toNat → h.toNat ≤ 0x453F → ∃ rs rd : LoReg, decodeThumb h = .ok (.tCmpLoLo rs rd)) ∧
  (∀ h : BitVec 16, 0x4600 ≤ h.toNat → h.toNat ≤ 0x463F → ∃ rs rd : LoReg, decodeThumb h = .ok (.tMovLoLo rs rd)) ∧
  (∀ h : BitVec 16, 0x4780 ≤ h.toNat → h.toNat ≤ 0x47FF →
    ∃ (h2 : Bool) (rs rd : LoReg), decodeThumb h = .ok (.tBxH1 h2 rs rd)) ∧
  (∀ (s : State) (rs rd : LoReg),
    exec (.tAddLoLo rs rd) s = .refused .hiRegisterLoLo ∧ exec (.tCmpLoLo rs rd) s = .refused .hiRegisterLoLo ∧
    exec (.tMovLoLo rs rd) s = .refused .hiRegisterLoLo ∧
    ∀ h2 : Bool, exec (.tBxH1 h2 rs rd) s = .refused .thumbBxH1) ∧
  decodeThumb 0x44AF#16 = .ok (.tAddHiLo 5#3 7#3) ∧ decodeThumb 0x4564#16 = .ok (.tCmpLoHi 4#3 4#3) ∧
  decodeThumb 0x46F7#16 = .ok (.tMovHiHi 6#3 7#3) ∧ decodeThumb 0x468B#16 = .ok (.tMovHiLo 1#3 3#3) ∧
  decodeThumb 0x4758#16 = .ok (.tBxHi 3#3 0#3)

/-- A step runs the decoded instruction (60 R436, steps 7 to 9, with DBGEN = 0): out of reset, in a legal mode, with no
interrupt to take and the fetch not aborted, the step is the execution of the instruction that the head of the prefetch
queue, or memory at the PC, decodes to, in a state with the same registers, status registers and PC, the memory as the
environment left it, and in the queue the instruction and the two after it: each as it was fetched before, or else the
opcode and the prefetch-abort mark that this step's fetches find, one memory cycle each (10 R45, R46, 20 R76, R88, R89, 70
R546). After the instruction the queue is filled up to two: nothing, unless the instruction emptied it; then the two
fetches of the refill, which change nothing else. After an aborted data access one more fetch stands before them, the first
cycle of the abort's entry, in the old mode and state (70 R546); that it is three instructions ahead is DEDUCED (log 76). -/
def Obligations.StepRunsDecodedInstruction : Prop :=
  (∀ (s : State) (i : Instr),
    let inp := s.env.headD Inputs.inactive
    let b := s.beginStep
    let w := (b.slot 0).opcode
    s.pins.dbgen = false → s.running → s.quiet → (b.slot 0).aborted = false →
    (if s.cpsr.t then decodeThumb (w.extractLsb' 0 16) else decodeArm w) = .ok i →
    ∃ r : State,
      (∀ t : State, exec i r = .next t → (∀ c ∈ t.bus, c.fetch = false → c.aborted = false) →
        step s = .next (t.fillPipe 2)) ∧
      (∀ t : State, exec i r = .next t → (∃ c ∈ t.bus, c.fetch = false ∧ c.aborted = true) →
        ∃ e : BusCycle, b.fetches e 3 ∧ step s = .next (({ t with bus := t.bus ++ [e] } : State).fillPipe 2)) ∧
      (∀ f : Fault, exec i r = .fault f → step s = .fault f) ∧
      (∀ e : Refusal, exec i r = .refused e → step s = .refused e) ∧
      r.regs = s.regs ∧ r.pc = s.pc ∧ r.cpsr = s.cpsr ∧ r.spsrs = s.spsrs ∧
      r.mem = Memory.writeCells s.mem inp.memWrites ∧ r.pins = { s.pins with abortMap := inp.newAbortMap.getD s.pins.abortMap } ∧
      r.inp = inp ∧ r.env = s.env.tail ∧ r.hazard = s.hazard ∧ r.cpLog = [] ∧
      (∀ k < 3, r.pipe[k]? = some (b.slot k)) ∧ (s.pipe.length ≤ 3 → r.pipe.length = 3) ∧
      r.bus.length = 3 - s.pipe.length ∧
      (∀ (k : Nat) (c : BusCycle), r.bus[k]? = some c → b.fetches c (s.pipe.length + k)) ∧
      r.dbg = { s.dbg with scanIn := [], scanOut := [], iceOut := none, tapOut := none }) ∧
  (∀ t : State, t.pins.dbgen = false →
    t.sameCore (t.fillPipe 2) ∧ (t.fillPipe 2).pc = t.pc ∧ (t.fillPipe 2).dbg = t.dbg ∧ (t.fillPipe 2).pins = t.pins ∧
    (t.fillPipe 2).hazard = t.hazard ∧ (2 ≤ t.pipe.length → t.fillPipe 2 = t) ∧
    (∀ k < 2, (t.fillPipe 2).pipe[k]? = some (t.slot k)) ∧
    (∀ c ∈ t.bus, c ∈ (t.fillPipe 2).bus) ∧ (t.fillPipe 2).bus.length = t.bus.length + (2 - t.pipe.length))

/-- The same with DBGEN = 1 (60 R436, steps 3, 4, 7 and 10): outside debug state, with no debug request and the instruction
not marked by an abort or a breakpoint, the step is the execution of the decoded instruction and then
`State.endInstruction`: ICEBreaker sees the data accesses in turn (61 R473, R483), the entry of a data abort makes its first
fetch (70 R546, log 76), the queue is filled up to two, and a matched access enters debug state; but not in an illegal mode,
which only reset leaves (10 R39; the model's choice, log 60). BREAKPT reaches the core from the pin or from an enabled unit
all of whose fields match; the RANGEOUT pins show the units' matches whatever their ENABLE; CHAINOUT takes the data
comparison where address and control match, keeps its value otherwise, and is held clear while nTRST is LOW (61 R481 to
R484, R503). What RANGE and CHAIN of unit 1 are is free (log 22), and that unit 0 sees CHAINOUT as it was before the cycle
is DEDUCED (log 33). -/
def Obligations.StepWatchesDataAccesses : Prop :=
  (∀ (s : State) (i : Instr),
    let inp := s.env.headD Inputs.inactive
    let b := s.beginStep
    let w := (b.slot 0).opcode
    s.pins.dbgen = true → s.running → s.quiet → (b.slot 0).aborted = false → (b.slot 0).breakpoint = false →
    (s.pipe = [] → s.dbg.wp0.ctrlValue.getLsbD 8 = false ∧ s.dbg.wp1.ctrlValue.getLsbD 8 = false ∧
      inp.breakpt.getD 0 false = false) →
    (if s.cpsr.t then decodeThumb (w.extractLsb' 0 16) else decodeArm w) = .ok i →
    ∃ r : State,
      (∀ t : State, exec i r = .next t → step s = .next (t.endInstruction r)) ∧
      (∀ f : Fault, exec i r = .fault f → step s = .fault f) ∧
      (∀ e : Refusal, exec i r = .refused e → step s = .refused e) ∧
      r.regs = s.regs ∧ r.pc = s.pc ∧ r.cpsr = s.cpsr ∧ r.spsrs = s.spsrs ∧
      r.mem = Memory.writeCells s.mem inp.memWrites ∧ r.pins = { s.pins with abortMap := inp.newAbortMap.getD s.pins.abortMap } ∧
      r.inp = inp ∧ r.env = s.env.tail ∧ r.hazard = s.hazard ∧ r.cpLog = [] ∧
      (∀ k < 3, ∃ q : Slot, r.pipe[k]? = some q ∧ q.opcode = (b.slot k).opcode ∧ q.aborted = (b.slot k).aborted ∧
        (k < s.pipe.length → q = b.slot k)) ∧
      (s.pipe.length ≤ 3 → r.pipe.length = 3) ∧ r.bus.length = 3 - s.pipe.length ∧ (∀ c ∈ r.bus, c.fetch = true) ∧
      (∃ x y z : Bool, r.dbg =
        { s.dbg with scanIn := [], scanOut := [], iceOut := none, tapOut := none }.seen x y z)) ∧
  (∀ t before : State, t.pins.dbgen = true →
    let data := t.bus.filter fun c => !c.fetch
    let u := t.endInstruction before
    (data = [] → u = t.fillPipe 2) ∧
    ((t.iceCycles data).1 = false → (∀ c ∈ data, c.aborted = false) →
      ∃ x y z : Bool, u = ({ t with dbg := t.dbg.seen x y z } : State).fillPipe 2) ∧
    ((t.iceCycles data).1 = false → (∃ c ∈ data, c.aborted = true) →
      ∃ (x y z : Bool) (e : BusCycle), before.fetches e 3 ∧
        u = ({ t with bus := t.bus ++ [e], dbg := t.dbg.seen x y z } : State).fillPipe 2) ∧
    ((t.iceCycles data).1 = true → legalMode t.cpsr.m = true → u.dbg.active = true) ∧
    (legalMode t.cpsr.m = false → t.sameCore u ∧ u.pc = t.pc ∧ u.dbg.active = t.dbg.active) ∧
    ((t.iceCycles data).1 = true ↔ ∃ (first after : List BusCycle) (c : BusCycle), data = first ++ c :: after ∧
      ((t.iceCycles first).2.iceCycle c).1 = true)) ∧
  (∀ (t : State) (c : BusCycle) (range1 : Bool), t.pins.dbgen = true →
    let big := t.pins.bigend
    let unit0 := t.dbg.wp0.unitMatch big c range1 t.dbg.chainOut t.inp.extern0
    let unit1 := t.dbg.wp1.unitMatch big c (Config.wp1Range t.freeCtr c.place) (Config.wp1Chain t.freeCtr c.place)
      t.inp.extern1
    (range1 = true ↔ unit1) →
    ((t.iceCycle c).1 = true ↔ c.breakpt = true ∨ (unit0 ∧ t.dbg.wp0.ctrlValue.getLsbD 8 = true) ∨
      (unit1 ∧ t.dbg.wp1.ctrlValue.getLsbD 8 = true)) ∧
    ((t.iceCycle c).2.dbg.rangeOut0 = true ↔ unit0) ∧ ((t.iceCycle c).2.dbg.rangeOut1 = true ↔ unit1) ∧
    (t.inp.nTRST = true → t.dbg.wp1.accessMatch c → ((t.iceCycle c).2.dbg.chainOut = true ↔ unit1)) ∧
    (t.inp.nTRST = true → ¬ t.dbg.wp1.accessMatch c → (t.iceCycle c).2.dbg.chainOut = t.dbg.chainOut) ∧
    (t.inp.nTRST = false → (t.iceCycle c).2.dbg.chainOut = false))

/-- Every step keeps the invariant: the memory has its one form, the PC is aligned for the state (10 R32), and no more than
the instruction at the PC and the two after it are prefetched (10 R45). -/
def Obligations.StepKeepsInvariant : Prop := ∀ s t : State, s.Inv → step s = .next t → t.Inv

/-- The machine right after reset meets the invariant. -/
def Obligations.ResetMeetsInvariant : Prop := State.reset.Inv

/-- Reset (70 R520, R521, R522, 10 R39, R50), outside debug state. After nRESET has been LOW for two steps or more and is HIGH
again, the step is the reset entry: PC 0, Supervisor mode, I and F set, ARM state, the pipeline empty; memory and the debug
state are not touched. While nRESET is LOW nothing executes: the PC counts up in words, each with a dummy fetch. In the
first such step the instruction being executed is abandoned: every byte of memory that it could not write, and with an
instruction that is not one of coprocessor 14 every debug register, is as before; that the registers, the CPSR and the
SPSRs read as before until the entry, and that the fetches begin at the PC, are the model's choices (logs 46, 72). A core
in an illegal mode is stuck until then. nRESET LOW for one step only, or in debug state, is out of contract.
`State.reset` is a state as the entry leaves it. -/
def Obligations.ResetSequence : Prop :=
  (∀ s : State, s.tapIdle → (s.env.headD Inputs.inactive).nRESET = true → 2 ≤ s.resetCycles →
    ∃ t : State, step s = .next t ∧ t.pc = 0#32 ∧ t.cpsr.m = modeSvc ∧ t.cpsr.i = true ∧ t.cpsr.f = true ∧
      t.cpsr.t = false ∧ t.pipe = [] ∧ t.resetCycles = 0 ∧
      t.mem = Memory.writeCells s.mem (s.env.headD Inputs.inactive).memWrites ∧
      t.dbg = { s.dbg with scanIn := [], scanOut := [], iceOut := none, tapOut := none } ∧
      t.pins.bigend = s.pins.bigend ∧ t.pins.dbgen = s.pins.dbgen) ∧
  (∀ s : State, s.tapIdle → (s.pins.dbgen = true → s.dbg.active = false) → Memory.wf s.mem = true →
    (s.env.headD Inputs.inactive).nRESET = false →
    let b := s.beginStep
    let abandons := fun (i : Instr) (u : State) => s.resetCycles = 0 ∧ b.decodeNext = .ok i ∧ exec i b = .next u
    ∃ t : State, step s = .next t ∧ t.resetCycles = s.resetCycles + 1 ∧ t.regs = s.regs ∧ t.cpsr = s.cpsr ∧
      t.spsrs = s.spsrs ∧ t.pc = (s.pc &&& 0xFFFFFFFC#32) + 4#32 ∧ t.pipe = [] ∧
      (∃ c : BusCycle, t.bus = [c] ∧ c.fetch = true ∧ c.write = false ∧ c.size = .word ∧
        c.addr ||| 3#32 = s.pc ||| 3#32) ∧
      (∀ a : Nat, (∀ (i : Instr) (u : State) (c : BusCycle), abandons i u → c ∈ u.bus → c.write = true →
        c.aborted = false → ¬ c.size.touches c.addr a) → Memory.get t.mem a = Memory.get b.mem a) ∧
      ((∀ (i : Instr) (u : State), abandons i u → i.coprocessor ≠ some 14#4) →
        ∃ x y z : Bool, t.dbg = b.dbg.seen x y z)) ∧
  (∀ s : State, s.tapIdle → (s.env.headD Inputs.inactive).nRESET = true → s.resetCycles = 1 →
    step s = .refused .resetContract) ∧
  (∀ s : State, s.tapIdle → s.pins.dbgen = true → s.dbg.active = true → (s.env.headD Inputs.inactive).nRESET = false →
    step s = .refused .resetContract) ∧
  (∀ s : State, s.tapIdle → (s.env.headD Inputs.inactive).nRESET = true → s.resetCycles = 0 →
    legalMode s.cpsr.m = false → ∃ t : State, step s = .next t ∧ t.regs = s.regs ∧ t.cpsr = s.cpsr ∧ t.spsrs = s.spsrs ∧
      t.pc = s.pc ∧ t.bus = [] ∧ t.mem = Memory.writeCells s.mem (s.env.headD Inputs.inactive).memWrites) ∧
  State.reset.pc = 0#32 ∧ State.reset.cpsr.m = modeSvc ∧ State.reset.cpsr.i = true ∧ State.reset.cpsr.f = true ∧
    State.reset.cpsr.t = false

/-- The register banks (10 R24, R25): R0 to R7 are one register in every mode, R8 to R12 differ in FIQ mode only, and R13 and
R14 of two different exception modes, or of an exception mode and User mode, are different registers; so a write of one
leaves the other alone. System mode uses exactly the User-mode registers, has no SPSR, and differs from User mode only in
being privileged; nM[4:0] shows the inverted mode bits and TBIT the state (10 R42). -/
def Obligations.RegisterBanks : Prop :=
  (∀ (m : BitVec 5) (r : Reg), r.toNat < 8 → physReg m r = physReg modeUsr r) ∧
  (∀ (m : BitVec 5) (r : Reg), 8 ≤ r.toNat → r.toNat < 13 → (physReg m r = physReg modeUsr r ↔ m ≠ modeFiq)) ∧
  (∀ (m m' : BitVec 5) (r : Reg) (s : State) (v : Word), legalMode m = true → legalMode m' = true → r = 13#4 ∨ r = 14#4 →
    m ≠ m' → ¬ (m ∈ [modeUsr, modeSys] ∧ m' ∈ [modeUsr, modeSys]) →
    (s.setReg (physReg m r) v).getReg (physReg m' r) = s.getReg (physReg m' r)) ∧
  (∀ r : Reg, physReg modeSys r = physReg modeUsr r) ∧
  (∀ s : State, s.cpsr.m = modeSys → s.spsr = none ∧ s.privileged = true) ∧
  (∀ s : State, s.cpsr.m = modeUsr → s.spsr = none ∧ s.privileged = false) ∧
  (∀ s : State, s.nM ^^^ s.cpsr.m = 0b11111#5 ∧ s.tbit = s.cpsr.t)

/-! ### Exceptions -/

/-- The vector and the mode of each exception (60 R431, Table 4): each forces the PC to its vector and the mode bits to its
mode, in ARM state; none uses 0x14. -/
def Obligations.ExceptionVectors : Prop :=
  (∀ s : State, s.resetEntry.pc = 0x00#32 ∧ s.resetEntry.cpsr.m = 0b10011#5 ∧ s.resetEntry.cpsr.t = false) ∧
  (State.reset.pc = 0x00#32 ∧ State.reset.cpsr.m = 0b10011#5) ∧
  (Exc.vector .undefined = 0x04#32 ∧ Exc.mode .undefined = 0b11011#5) ∧
  (Exc.vector .swi = 0x08#32 ∧ Exc.mode .swi = 0b10011#5) ∧
  (Exc.vector .prefetchAbort = 0x0C#32 ∧ Exc.mode .prefetchAbort = 0b10111#5) ∧
  (Exc.vector .dataAbort = 0x10#32 ∧ Exc.mode .dataAbort = 0b10111#5) ∧
  (Exc.vector .irq = 0x18#32 ∧ Exc.mode .irq = 0b10010#5) ∧
  (Exc.vector .fiq = 0x1C#32 ∧ Exc.mode .fiq = 0b10001#5) ∧
  (∀ e : Exc, e.vector ≠ 0x14#32) ∧
  (∀ (s : State) (e : Exc) (link : Word), (s.enterException e link).pc = e.vector ∧
    (s.enterException e link).cpsr.m = e.mode ∧ (s.enterException e link).cpsr.t = false ∧
    (s.enterException e link).pipe = [])

/-- Taking an exception (60 R440, R442, R443): the link register and the SPSR of the mode entered receive the link value and
the old CPSR; the mode changes, T is cleared, I set, F set by FIQ only; the PC goes to the vector and the pipeline is
flushed; the flags, every other register and SPSR, memory, the debug state and the pins are unchanged. That every entry sets
I and that only FIQ's sets F is not stated for each exception: it is decision D20 of R442 (PRESUMED in part, log 32). -/
def Obligations.ExceptionEntryState : Prop :=
  ∀ (s : State) (e : Exc) (link : Word),
    let t := s.enterException e link
    t.getReg (physReg e.mode 14#4) = link ∧ t.spsr = some s.cpsr ∧
    t.cpsr.m = e.mode ∧ t.cpsr.t = false ∧ t.cpsr.i = true ∧ (e = .fiq → t.cpsr.f = true) ∧
    (e ≠ .fiq → t.cpsr.f = s.cpsr.f) ∧ t.cpsr.n = s.cpsr.n ∧ t.cpsr.z = s.cpsr.z ∧ t.cpsr.c = s.cpsr.c ∧
    t.cpsr.v = s.cpsr.v ∧ t.pc = e.vector ∧ t.pipe = [] ∧
    s.keepsRegs t [physReg e.mode 14#4] ∧ s.keepsMem t ∧ t.dbg = s.dbg ∧ t.pins = s.pins ∧
    (∀ (m : BitVec 5) (f : Psr → Psr), m ≠ e.mode → (∀ p : Psr, (f p).m = m) →
      (t.withCpsr (f t.cpsr)).spsr = (s.withCpsr (f s.cpsr)).spsr)

/-- The exceptions between instructions (60 R433, R436, R441, R450, R451, R446; 61 R490): a LOW nFIQ with F clear is taken
first; then a LOW nIRQ with I clear; both only where IFEN is 1, that is with DBGEN = 0, or outside debug state with INTDIS
clear; then the abort of the fetch of the instruction at the PC, as its fetch marked it. Each links 4 past the instruction
that did not execute, in both states, and the pipeline is refilled from the vector. The entry begins with a fetch in the old
mode and state, two past that instruction (70 R546); where the queue holds it already, an interrupt makes it again, which is
DEDUCED (log 77). That the prefetch abort is taken whatever the condition field of the instruction is the model's choice:
decision D21 of 60 R435 (log 39). -/
def Obligations.ExceptionsBetweenInstructions : Prop :=
  (∀ s : State, s.ifen = true ↔ s.pins.dbgen = false ∨ (s.dbg.active = false ∧ s.dbg.intdis = false)) ∧
  (∀ s : State,
    let inp := s.env.headD Inputs.inactive
    let b := s.beginStep
    let takes := fun (e : Exc) (fetches : Nat) =>
      ∃ r : State, step s = .next ((r.enterException e (s.pc + 4#32)).fillPipe 2) ∧
        r.regs = s.regs ∧ r.cpsr = s.cpsr ∧ r.spsrs = s.spsrs ∧ r.mem = b.mem ∧
        r.bus.length = fetches ∧ (∀ c : BusCycle, r.bus.getLast? = some c → b.fetches c 2)
    s.running →
    (s.pins.dbgen = false ∨ s.dbg.intdis = false → s.cpsr.f = false → inp.nFIQ = false →
      takes .fiq (max 1 (3 - s.pipe.length))) ∧
    (s.pins.dbgen = false ∨ s.dbg.intdis = false → s.cpsr.f = true ∨ inp.nFIQ = true → s.cpsr.i = false →
      inp.nIRQ = false → takes .irq (max 1 (3 - s.pipe.length))) ∧
    (s.quiet → (b.slot 0).aborted = true → takes .prefetchAbort (3 - s.pipe.length)))

/-- Entry and return (60 R441, R452): taken in any state whose PC is aligned, an exception followed by the return instruction
of Table 3 restores the CPSR with its mode, masks and T bit, every general register but the link register of the exception
mode, and memory, and resumes where the table says: the interrupted instruction for FIQ, IRQ and the aborts, the next one
for SWI and Undefined. -/
def Obligations.ReturnResumesProgram : Prop :=
  ∀ s : State, s.pcAligned →
    (∀ e : Exc, e = .fiq ∨ e = .irq ∨ e = .prefetchAbort →
      ∃ u : State, exec (.subImm .al true 14#4 15#4 0#4 4#8) (s.enterException e (s.pc + 4#32)) = .next u ∧
        u.pc = s.pc ∧ u.cpsr = s.cpsr ∧ s.keepsRegs u [physReg e.mode 14#4] ∧ s.keepsMem u) ∧
    (∃ u : State, exec (.subImm .al true 14#4 15#4 0#4 8#8) (s.enterException .dataAbort (s.pc + 8#32)) = .next u ∧
      u.pc = s.pc ∧ u.cpsr = s.cpsr ∧ s.keepsRegs u [.r14Abt] ∧ s.keepsMem u) ∧
    (∀ e : Exc, e = .swi ∨ e = .undefined →
      ∃ u : State, exec (.movShift .al true 0#4 15#4 0#5 .lsl 14#4)
          (s.enterException e (s.pc + if s.cpsr.t then 2#32 else 4#32)) = .next u ∧
        u.pc = (s.pc + if s.cpsr.t then 2#32 else 4#32) ∧ u.cpsr = s.cpsr ∧ s.keepsRegs u [physReg e.mode 14#4] ∧
        s.keepsMem u)

/-- User mode is confined (10 R38, R39, 42 R212, R214, 60 R462): no instruction executed in User mode, outside debug state,
changes the mode, the interrupt masks, an SPSR or a banked register of another mode, unless it takes an exception: then
it is the Undefined instruction trap, the software interrupt or the data abort, entered as 60 R440 says. -/
def Obligations.UserModeConfined : Prop :=
  ∀ (i : Instr) (s t : State), s.cpsr.m = modeUsr → s.dbg.active = false → exec i s = .next t →
    (t.cpsr.m = modeUsr ∧ t.cpsr.i = s.cpsr.i ∧ t.cpsr.f = s.cpsr.f ∧ t.spsrs = s.spsrs ∧
      (∀ p : PReg, (∀ r : Reg, p ≠ physReg modeUsr r) → t.getReg p = s.getReg p)) ∨
    (∃ (r : State) (e : Exc) (link : Word), (e = .undefined ∨ e = .swi ∨ e = .dataAbort) ∧
      t = r.enterException e link ∧ r.cpsr = s.cpsr ∧ r.spsrs = s.spsrs ∧
      (∀ p : PReg, (∀ q : Reg, p ≠ physReg modeUsr q) → r.getReg p = s.getReg p))

/-- The instructions that only take an exception, each linking the next instruction: SWI of both instruction sets, whose
comment field plays no part (46 R291, R292, 49 R413, 60 R441, R449); the Undefined instruction (46 R310, 60 R445); and the
seven THUMB rows that no format allocates, for which the trap is the spec's decision D19 (30 R131, 49 R412). -/
def Obligations.TrapInstructions : Prop :=
  (∀ (s : State) (c : Cond) (k : BitVec 24), s.cpsr.t = false → condPassed c s.cpsr = true →
    exec (.swi c k) s = .next (s.enterException .swi (s.pc + 4#32))) ∧
  (∀ (s : State) (k : BitVec 8), s.cpsr.t = true →
    exec (.tSwi k) s = .next (s.enterException .swi (s.pc + 2#32))) ∧
  (∀ (s : State) (c : Cond) (x : BitVec 20) (y : BitVec 4), s.cpsr.t = false → condPassed c s.cpsr = true →
    exec (.undef c x y) s = .next (s.enterException .undefined (s.pc + 4#32))) ∧
  (∀ (s : State) (i : Instr), s.cpsr.t = true → i.thumbUndefined = true →
    exec i s = .next (s.enterException .undefined (s.pc + 2#32)))

/-! ### ARM data processing and status registers -/

/-- The barrel shifter (41 R172, R173, R174): the value and the carry of each shift type, for a register amount of 0 to 255,
for an instruction amount of 0 to 31 with 0 standing for LSL #0, LSR #32, ASR #32 and RRX, and for a rotated immediate
(whose carry is decision D15). -/
def Obligations.BarrelShifter : Prop :=
  (∀ (ty : ShiftType) (v : Word) (c : Bool), shiftReg ty v 0#8 c = ⟨v, c⟩) ∧
  (∀ (v : Word) (a : Byte) (c : Bool), a ≠ 0#8 →
    shiftReg .lsl v a c = ⟨BitVec.ofNat 32 (v.toNat * 2 ^ a.toNat), a.toNat ≤ 32 && v.getLsbD (32 - a.toNat)⟩ ∧
    shiftReg .lsr v a c = ⟨BitVec.ofNat 32 (v.toNat / 2 ^ a.toNat), v.getLsbD (a.toNat - 1)⟩ ∧
    shiftReg .asr v a c = ⟨BitVec.ofInt 32 (v.toInt / 2 ^ a.toNat), v.getLsbD (min (a.toNat - 1) 31)⟩ ∧
    shiftReg .ror v a c = ⟨v.rotateRight (a.toNat % 32), v.getLsbD ((a.toNat - 1) % 32)⟩) ∧
  (∀ (ty : ShiftType) (v : Word) (n : BitVec 5) (c : Bool), n ≠ 0#5 →
    shiftImm ty v n c = shiftReg ty v (n.setWidth 8) c) ∧
  (∀ (v : Word) (c : Bool),
    shiftImm .lsl v 0#5 c = ⟨v, c⟩ ∧ shiftImm .lsr v 0#5 c = shiftReg .lsr v 32#8 c ∧
    shiftImm .asr v 0#5 c = shiftReg .asr v 32#8 c ∧
    shiftImm .ror v 0#5 c = ⟨BitVec.ofBool c ++ v.extractLsb' 1 31, v.getLsbD 0⟩) ∧
  (∀ (rot : BitVec 4) (imm : BitVec 8) (c : Bool),
    (rotatedImm rot imm c).value = (imm.setWidth 32 : Word).rotateRight (2 * rot.toNat) ∧
    (rotatedImm 0#4 imm c).carry = c ∧
    (rot ≠ 0#4 → (rotatedImm rot imm c).carry = (rotatedImm rot imm c).value.getLsbD 31))

/-- R15 as an operand (10 R31, 41 R175): 8 bytes ahead in ARM state, 4 in THUMB state, and 12 ahead as Rn or Rm beside a
shift by a register; a register other than R15 is read in the bank of the current mode; operand 2 is the shifter's output
of such values. -/
def Obligations.OperandsReadThePc : Prop :=
  (∀ s : State, s.cpsr.t = false → s.operand 15#4 = s.pc + 8#32) ∧
  (∀ s : State, s.cpsr.t = true → s.operand 15#4 = s.pc + 4#32) ∧
  (∀ (s : State) (r : Reg), r ≠ 15#4 → s.hazard = false → s.operand r = s.getReg (physReg s.cpsr.m r)) ∧
  (∀ (s : State) (rs rm : Reg) (ty : ShiftType), s.op1 15#4 (.reg rs ty rm) = s.pc + 12#32 ∧
    s.op2 (.reg rs ty 15#4) = shiftReg ty (s.pc + 12#32) ((s.operand rs).extractLsb' 0 8) s.cpsr.c) ∧
  (∀ (s : State) (rn rs rm : Reg) (ty : ShiftType), rn ≠ 15#4 → s.op1 rn (.reg rs ty rm) = s.operand rn) ∧
  (∀ (s : State) (rs rm : Reg) (ty : ShiftType), rm ≠ 15#4 →
    s.op2 (.reg rs ty rm) = shiftReg ty (s.operand rm) ((s.operand rs).extractLsb' 0 8) s.cpsr.c) ∧
  (∀ (s : State) (rn rm : Reg) (ty : ShiftType) (n : BitVec 5) (rot : BitVec 4) (imm : BitVec 8),
    s.op1 rn (.shift n ty rm) = s.operand rn ∧ s.op1 rn (.imm rot imm) = s.operand rn ∧
    s.op2 (.shift n ty rm) = shiftImm ty (s.operand rm) n s.cpsr.c ∧ s.op2 (.imm rot imm) = rotatedImm rot imm s.cpsr.c)

/-- AND, EOR, ORR, MOV, BIC and MVN with any operand 2 and Rd not R15 complete: Rd receives the result of Table 7; with S the
flags are N and Z of the result, C of the shifter, V unchanged, without S none changes; nothing else does (41 R178 to R180,
R182, R183, R194 to R197). -/
def Obligations.LogicalOperations : Prop :=
  ∀ (s : State) (op : AluOp) (c : Cond) (sf : Bool) (rn rd : Reg) (o : Op2),
    s.cpsr.t = false → op.isLogical = true → condPassed c s.cpsr = true → o.excluded = false → rd ≠ 15#4 →
    ∃ t : State, exec (aluInstr op c sf rn rd o) s = .next t ∧
      s.sets t rd (op.result (s.op1 rn o) (s.op2 o).value s.cpsr.c)
        (if sf then s.cpsr.afterLogical (op.result (s.op1 rn o) (s.op2 o).value s.cpsr.c) (s.op2 o).carry else s.cpsr)

/-- SUB, RSB, ADD, ADC, SBC and RSC with any operand 2 and Rd not R15 complete: Rd receives the sum or difference modulo
2^32; with S the flags are N and Z of the result, C the carry out of bit 31 or no borrow, V a signed overflow; without S
none changes; nothing else does (41 R178, R179, R181, R184 to R189). -/
def Obligations.ArithmeticOperations : Prop :=
  ∀ (s : State) (op : AluOp) (c : Cond) (sf : Bool) (rn rd : Reg) (o : Op2),
    s.cpsr.t = false → op.isLogical = false → condPassed c s.cpsr = true → o.excluded = false → rd ≠ 15#4 →
    ∃ (t : State) (q : Psr), exec (aluInstr op c sf rn rd o) s = .next t ∧
      s.sets t rd (op.result (s.op1 rn o) (s.op2 o).value s.cpsr.c) q ∧
      (sf = true → s.cpsr.afterArith q op (s.op1 rn o) (s.op2 o).value) ∧ (sf = false → q = s.cpsr)

/-- A result in R15 (41 R176, 10 R32, 60 R452). Without S the program goes on at the result with bits 1:0 cleared, and the
CPSR is unaffected. With S the SPSR of the current mode becomes the CPSR, and the program goes on at the result, aligned
for the restored state. Two choices: the PC is masked and not faulted (decision D9 of 10 R32, log 27); and in User and
System mode, where there is no SPSR, the machine stops (the treatment of U6 in 93, log 60). -/
def Obligations.ResultInPc : Prop :=
  ∀ (s : State) (op : AluOp) (c : Cond) (rn : Reg) (o : Op2),
    s.cpsr.t = false → condPassed c s.cpsr = true → o.excluded = false →
    let r := op.result (s.op1 rn o) (s.op2 o).value s.cpsr.c
    (∃ t : State, exec (aluInstr op c false rn 15#4 o) s = .next t ∧ s.jumps t r s.cpsr) ∧
    (∀ p : Psr, s.spsr = some p → ∃ t : State, exec (aluInstr op c true rn 15#4 o) s = .next t ∧ s.jumps t r p) ∧
    (s.spsr = none → exec (aluInstr op c true rn 15#4 o) s = .fault .noSpsr)

/-- TST, TEQ, CMP and CMN with any operand 2 and an Rd field that is not 15 complete: the flags of AND, EOR, SUB and ADD on
the operands, and no other change (41 R177, R180, R181, R190 to R193). -/
def Obligations.TestOperations : Prop :=
  ∀ (s : State) (op : TestOp) (c : Cond) (rn rd : Reg) (o : Op2),
    s.cpsr.t = false → condPassed c s.cpsr = true → o.excluded = false → rd ≠ 15#4 →
    ∃ (t : State) (q : Psr), exec (testInstr op c rn rd o) s = .next t ∧ s.setsFlags t q ∧
      (op.alu.isLogical = true →
        q = s.cpsr.afterLogical (op.alu.result (s.op1 rn o) (s.op2 o).value s.cpsr.c) (s.op2 o).carry) ∧
      (op.alu.isLogical = false → s.cpsr.afterArith q op.alu (s.op1 rn o) (s.op2 o).value)

/-- The obsolete P forms, Rd field 15 (41 R177, U22): nothing in User mode; in a mode with an SPSR it becomes the CPSR; System
mode stops (U6). An SPSR whose T bit differs is the write that 10 R37 forbids and stops (U1): the model's reading, log
28. -/
def Obligations.TestPForms : Prop :=
  ∀ (s : State) (op : TestOp) (c : Cond) (rn : Reg) (o : Op2),
    s.cpsr.t = false → condPassed c s.cpsr = true → o.excluded = false →
    (s.cpsr.m = modeUsr → ∃ t : State, exec (testInstr op c rn 15#4 o) s = .next t ∧ s.setsFlags t s.cpsr) ∧
    (∀ p : Psr, s.spsr = some p → p.t = false → ∃ t : State, exec (testInstr op c rn 15#4 o) s = .next t ∧
      t.cpsr = p ∧ t.pc = s.pc + 4#32 ∧ s.frame t []) ∧
    (∀ p : Psr, s.spsr = some p → p.t = true → exec (testInstr op c rn 15#4 o) s = .fault .stateBitChanged) ∧
    (s.cpsr.m = modeSys → exec (testInstr op c rn 15#4 o) s = .fault .noSpsr)

/-- MRS with Rd not R15 (42 R211): the twelve defined bits of the CPSR, or of the SPSR of the current mode, reach Rd at the
positions of 10 R34 (of which I, F and T are PRESUMED, log 3); bits 27:8 are free; nothing else changes. In User and System
mode there is no SPSR and the machine stops (U6). -/
def Obligations.MrsReadsPsr : Prop :=
  ∀ (s : State) (c : Cond) (rd : Reg), s.cpsr.t = false → condPassed c s.cpsr = true → rd ≠ 15#4 →
    (∃ (t : State) (w : Word), exec (.mrs c false rd) s = .next t ∧ s.sets t rd w s.cpsr ∧ Psr.ofWord w = s.cpsr) ∧
    (∀ p : Psr, s.spsr = some p →
      ∃ (t : State) (w : Word), exec (.mrs c true rd) s = .next t ∧ s.sets t rd w s.cpsr ∧ Psr.ofWord w = p) ∧
    (s.spsr = none → exec (.mrs c true rd) s = .fault .noSpsr)

/-- MSR to the CPSR (42 R212, R213, R214, 61 R493): a register to the whole CPSR writes all twelve bits in a privileged mode,
or in any mode in debug state, and the flags only in User mode; the flag forms write the flags only, in every mode; a write
of the whole CPSR that changes T stops (U1; in debug state too, DEDUCED, log 56). Nothing else changes. The places of I, F
and T, bits 7, 6 and 5, are PRESUMED (log 3, 93 G1). -/
def Obligations.MsrWritesCpsr : Prop :=
  ∀ (s : State) (c : Cond) (rm : Reg) (rot : BitVec 4) (imm : BitVec 8),
    s.cpsr.t = false → condPassed c s.cpsr = true → rm ≠ 15#4 →
    let flags := fun w : Word =>
      { s.cpsr with n := w.getLsbD 31, z := w.getLsbD 30, c := w.getLsbD 29, v := w.getLsbD 28 }
    (s.cpsr.m ≠ modeUsr ∨ s.dbg.active = true → (s.operand rm).getLsbD 5 = false →
      ∃ t : State, exec (.msrReg c false rm) s = .next t ∧ s.setsFlags t (Psr.ofWord (s.operand rm))) ∧
    (s.cpsr.m ≠ modeUsr ∨ s.dbg.active = true → (s.operand rm).getLsbD 5 = true →
      exec (.msrReg c false rm) s = .fault .stateBitChanged) ∧
    (s.cpsr.m = modeUsr → s.dbg.active = false →
      ∃ t : State, exec (.msrReg c false rm) s = .next t ∧ s.setsFlags t (flags (s.operand rm))) ∧
    (∃ t : State, exec (.msrFlagsReg c false rm) s = .next t ∧ s.setsFlags t (flags (s.operand rm))) ∧
    (∃ t : State, exec (.msrFlagsImm c false rot imm) s = .next t ∧
      s.setsFlags t (flags ((imm.setWidth 32 : Word).rotateRight (2 * rot.toNat))))

/-- MSR to the SPSR of the current mode (42 R212, R213): the register form writes all twelve bits, the flag forms the flags;
the CPSR, the SPSRs of the other modes, the registers and memory are unchanged. In User and System mode the machine stops
(the treatment of U6 in 93, log 60). The places of I, F and T, bits 7, 6 and 5, are PRESUMED (log 3, 93 G1). -/
def Obligations.MsrWritesSpsr : Prop :=
  ∀ (s : State) (c : Cond) (rm : Reg) (rot : BitVec 4) (imm : BitVec 8),
    s.cpsr.t = false → condPassed c s.cpsr = true → rm ≠ 15#4 →
    let flags := fun (p : Psr) (w : Word) =>
      { p with n := w.getLsbD 31, z := w.getLsbD 30, c := w.getLsbD 29, v := w.getLsbD 28 }
    let writes := fun (t : State) (q : Psr) =>
      t.spsr = some q ∧ t.cpsr = s.cpsr ∧ t.pc = s.pc + 4#32 ∧ s.keepsRegs t [] ∧ s.keepsMem t ∧ t.dbg = s.dbg ∧
      t.pins = s.pins ∧ ∀ p : Psr, p.m ≠ s.cpsr.m → (t.withCpsr p).spsr = (s.withCpsr p).spsr
    (∀ p : Psr, s.spsr = some p →
      (∃ t : State, exec (.msrReg c true rm) s = .next t ∧ writes t (Psr.ofWord (s.operand rm))) ∧
      (∃ t : State, exec (.msrFlagsReg c true rm) s = .next t ∧ writes t (flags p (s.operand rm))) ∧
      (∃ t : State, exec (.msrFlagsImm c true rot imm) s = .next t ∧
        writes t (flags p ((imm.setWidth 32 : Word).rotateRight (2 * rot.toNat))))) ∧
    (s.spsr = none →
      exec (.msrReg c true rm) s = .fault .noSpsr ∧ exec (.msrFlagsReg c true rm) s = .fault .noSpsr ∧
      exec (.msrFlagsImm c true rot imm) s = .fault .noSpsr)

/-! ### Multiplies -/

/-- MUL and MLA without R15 complete (43 R221 to R224). With Rd not Rm, Rd receives Rm * Rs, and Rn more for MLA, modulo
2^32; with S, N and Z are those of the result, V is unchanged and C is free. With Rd = Rm the result, N and Z are free
(U25). Nothing else changes. -/
def Obligations.Multiply : Prop :=
  ∀ (s : State) (c : Cond) (acc sf : Bool) (rd rn rs rm : Reg),
    s.cpsr.t = false → condPassed c s.cpsr = true → rd ≠ 15#4 → rs ≠ 15#4 → rm ≠ 15#4 → (acc = true → rn ≠ 15#4) →
    ∃ (t : State) (v : Word) (q : Psr),
      exec (if acc then .mla c sf rd rn rs rm else .mul c sf rd rn rs rm) s = .next t ∧ s.sets t rd v q ∧
      (rd ≠ rm → v = BitVec.ofNat 32
        ((s.operand rm).toNat * (s.operand rs).toNat + if acc then (s.operand rn).toNat else 0)) ∧
      (sf = false → q = s.cpsr) ∧
      (rd ≠ rm → sf = true → q.n = v.getLsbD 31 ∧ q.z = (v == 0#32)) ∧ q.v = s.cpsr.v ∧ s.cpsr.keepsControl q

/-- UMULL, UMLAL, SMULL and SMLAL without R15 complete (43 R228 to R233). With RdHi, RdLo and Rm all different, the pair
RdHi, RdLo receives the unsigned or signed product, and the old pair more for the accumulating forms, modulo 2^64; with S,
N and Z are those of the 64-bit result, C and V are free. Otherwise the two results, N and Z are free (U25). Nothing else
changes. -/
def Obligations.LongMultiply : Prop :=
  ∀ (s : State) (op : LongOp) (c : Cond) (sf : Bool) (hi lo rs rm : Reg),
    s.cpsr.t = false → condPassed c s.cpsr = true → hi ≠ 15#4 → lo ≠ 15#4 → rs ≠ 15#4 → rm ≠ 15#4 →
    ∃ t : State, exec (.mulLong op c sf hi lo rs rm) s = .next t ∧ t.pc = s.pc + 4#32 ∧
      s.frame t [physReg s.cpsr.m hi, physReg s.cpsr.m lo] ∧ (sf = false → t.cpsr = s.cpsr) ∧
      s.cpsr.keepsControl t.cpsr ∧
      (hi ≠ lo → hi ≠ rm → lo ≠ rm →
        let v : BitVec 64 :=
          BitVec.ofInt 64 (op.exact (s.operand rm) (s.operand rs) (s.operand hi ++ s.operand lo))
        t.getReg (physReg s.cpsr.m hi) ++ t.getReg (physReg s.cpsr.m lo) = v ∧
        (sf = true → t.cpsr.n = v.getLsbD 63 ∧ t.cpsr.z = (v == 0#64)))

/-! ### Branches -/

/-- B and BL (40 R162): the program goes on 8 past the instruction plus four times the signed offset; BL leaves the address
of the next instruction in R14. Nothing else changes. -/
def Obligations.ArmBranches : Prop :=
  ∀ (s : State) (c : Cond) (off : BitVec 24), s.cpsr.t = false → condPassed c s.cpsr = true →
    (∃ t : State, exec (.b c off) s = .next t ∧ s.jumps t (s.pc + 8#32 + BitVec.ofInt 32 (4 * off.toInt)) s.cpsr) ∧
    (∃ t : State, exec (.bl c off) s = .next t ∧ t.getReg (physReg s.cpsr.m 14#4) = s.pc + 4#32 ∧ t.cpsr = s.cpsr ∧
      t.pc = ((s.pc + 8#32 + BitVec.ofInt 32 (4 * off.toInt)) &&& 0xFFFFFFFC#32) ∧ t.pipe = [] ∧
      s.frame t [physReg s.cpsr.m 14#4])

/-- BX of both instruction sets (40 R160, 47 R352): bit 0 of the register becomes T, and the program goes on at the register's
value, aligned for that state. THUMB BX PC at an address that is not word aligned stops, outside debug state (U42); in debug
state it completes, which is DEDUCED from 61 R494 (log 48). Two choices: bits 2:0 of THUMB BX are ignored (decision D18 of
47 R352, log 41), and a target in ARM state with bit 1 set is masked, not faulted (decision D9 of 10 R32, log 27). -/
def Obligations.BranchExchange : Prop :=
  (∀ (s : State) (c : Cond) (rn : Reg), s.cpsr.t = false → condPassed c s.cpsr = true → rn ≠ 15#4 →
    ∃ t : State, exec (.bx c rn) s = .next t ∧
      s.jumps t (s.operand rn) { s.cpsr with t := (s.operand rn).getLsbD 0 }) ∧
  (∀ (s : State) (rs x : LoReg), s.cpsr.t = true →
    ∃ t : State, exec (.tBxLo rs x) s = .next t ∧
      s.jumps t (s.operand (loReg rs)) { s.cpsr with t := (s.operand (loReg rs)).getLsbD 0 }) ∧
  (∀ (s : State) (rs x : LoReg), s.cpsr.t = true → (rs = 7#3 → s.pc.getLsbD 1 = false ∨ s.dbg.active = true) →
    ∃ t : State, exec (.tBxHi rs x) s = .next t ∧
      s.jumps t (s.operand (hiReg rs)) { s.cpsr with t := (s.operand (hiReg rs)).getLsbD 0 }) ∧
  (∀ (s : State) (x : LoReg), s.dbg.active = false → s.pc.getLsbD 1 = true →
    exec (.tBxHi 7#3 x) s = .fault .bxPcMisaligned)

/-- The THUMB branches (49 R411, R414, R416 to R418): a conditional branch goes on 4 past the instruction plus twice the
signed offset where its condition passes, else at the next instruction; B goes there always. The two halves of BL, executed
one after the other, go on 4 past the first half plus 4096 times the signed high offset plus twice the low one, and leave
in R14 the address after the second half with bit 0 set. -/
def Obligations.ThumbBranches : Prop :=
  (∀ (s : State) (k : ThumbCond) (off : BitVec 8), s.cpsr.t = true →
    (condPassed k.toCond s.cpsr = true → ∃ t : State, exec (.tBcond k off) s = .next t ∧
      s.jumps t (s.pc + 4#32 + BitVec.ofInt 32 (2 * off.toInt)) s.cpsr) ∧
    (condPassed k.toCond s.cpsr = false → ∃ t : State, exec (.tBcond k off) s = .next t ∧ s.setsFlags t s.cpsr)) ∧
  (∀ (s : State) (off : BitVec 11), s.cpsr.t = true →
    ∃ t : State, exec (.tB off) s = .next t ∧ s.jumps t (s.pc + 4#32 + BitVec.ofInt 32 (2 * off.toInt)) s.cpsr) ∧
  (∀ (s : State) (off : BitVec 11), s.cpsr.t = true →
    ∃ t : State, exec (.tBlHigh off) s = .next t ∧
      s.sets t 14#4 (s.pc + 4#32 + BitVec.ofInt 32 (4096 * off.toInt)) s.cpsr) ∧
  (∀ (s : State) (off : BitVec 11), s.cpsr.t = true →
    ∃ t : State, exec (.tBlLow off) s = .next t ∧ t.getReg (physReg s.cpsr.m 14#4) = ((s.pc + 2#32) ||| 1#32) ∧
      t.pc = ((s.operand 14#4 + BitVec.ofNat 32 (2 * off.toNat)) &&& 0xFFFFFFFE#32) ∧ t.cpsr = s.cpsr ∧ t.pipe = [] ∧
      s.frame t [physReg s.cpsr.m 14#4]) ∧
  (∀ (s : State) (hi lo : BitVec 11), s.cpsr.t = true → s.pcAligned →
    ∃ t u : State, exec (.tBlHigh hi) s = .next t ∧ exec (.tBlLow lo) t = .next u ∧
      u.pc = s.pc + 4#32 + BitVec.ofInt 32 (4096 * hi.toInt + 2 * lo.toNat) ∧
      u.getReg (physReg s.cpsr.m 14#4) = ((s.pc + 4#32) ||| 1#32))

/-! ### Single transfers -/

/-- LDR and LDRB, with every indexing and offset and their T forms, complete where the access is not aborted (44 R236 to R239,
R243, R244): the word, rotated by a misaligned address, or the zero-extended byte at the address reaches Rd (R15: the
program goes on there, in ARM state); the base is written back as the indexing says, Rd winning; the access is made at the
privilege of the mode, as User for the T forms. Nothing else changes. That a word loaded to R15 is masked and not faulted is
the spec's decision D9 of 10 R32 (log 27). -/
def Obligations.SingleLoads : Prop :=
  ∀ (s : State) (byte : Bool) (c : Cond) (x : Index) (u : Bool) (rn rd : Reg) (o : Offset),
    let moved := if u then s.operand rn + s.offset o else s.operand rn - s.offset o
    let a := if x.before then moved else s.operand rn
    let k : LoadKind := if byte then .byte else .word
    let v := k.loaded s.pins.bigend s.mem a
    s.cpsr.t = false → condPassed c s.cpsr = true → s.isolated = false → o.rm? ≠ some 15#4 →
    (x.writesBack = true → rn ≠ 15#4) → s.aborts a k.size false false (x.privileged s) = false →
    ∃ t : State, exec (sdtInstr (if byte then .ldrb else .ldr) c x u rn rd o) s = .next t ∧
      (rd ≠ 15#4 → t.getReg (physReg s.cpsr.m rd) = v ∧ t.pc = s.pc + 4#32) ∧
      (rd = 15#4 → t.pc = (v &&& 0xFFFFFFFC#32) ∧ t.pipe = []) ∧
      (x.writesBack = true → rd ≠ rn → t.getReg (physReg s.cpsr.m rn) = moved) ∧ t.cpsr = s.cpsr ∧
      (∃ e : BusCycle, t.bus = s.bus ++ [e] ∧ e.addr = a ∧ e.size = k.size ∧ e.write = false ∧ e.fetch = false ∧
        e.priv = x.privileged s ∧ e.lock = false) ∧
      s.frame t (s.dest rd ++ if x.writesBack then [physReg s.cpsr.m rn] else [])

/-- STR and STRB, with every indexing and offset and their T forms, complete where the access is not aborted (44 R236, R237,
R240, R241, R243, R244, 20 R71, R72): the word that contains the address, or the byte at it, receives Rd (R15 reads 12
ahead); where Rd is the base that is written back, the old or the updated base (44 R247, U27); every other byte is
unchanged; the base is written back as the indexing says. Nothing else changes. That a word store to a misaligned address
goes unrotated to the word that contains it is the spec's choice D12 of 20 R71 (log 30). -/
def Obligations.SingleStores : Prop :=
  ∀ (s : State) (byte : Bool) (c : Cond) (x : Index) (u : Bool) (rn rd : Reg) (o : Offset),
    let moved := if u then s.operand rn + s.offset o else s.operand rn - s.offset o
    let a := if x.before then moved else s.operand rn
    let z : Size := if byte then .byte else .word
    Memory.wf s.mem = true → s.cpsr.t = false → condPassed c s.cpsr = true → s.isolated = false → o.rm? ≠ some 15#4 →
    (x.writesBack = true → rn ≠ 15#4) → s.aborts a z true false (x.privileged s) = false →
    ∃ (t : State) (v : Word), exec (sdtInstr (if byte then .strb else .str) c x u rn rd o) s = .next t ∧
      (v = (if rd = 15#4 then s.pc + 12#32 else s.operand rd) ∨ (x.writesBack = true ∧ rd = rn ∧ v = moved)) ∧
      z.holds s.pins.bigend t.mem a v ∧ s.keepsMemBut t z a ∧
      (x.writesBack = true → t.getReg (physReg s.cpsr.m rn) = moved) ∧ t.cpsr = s.cpsr ∧ t.pc = s.pc + 4#32 ∧
      (∃ e : BusCycle, t.bus = s.bus ++ [e] ∧ e.addr = a ∧ e.size = z ∧ e.write = true ∧ e.fetch = false ∧
        e.priv = x.privileged s ∧ e.lock = false) ∧
      s.keepsRegs t (if x.writesBack then [physReg s.cpsr.m rn] else []) ∧ s.keepsSystem t

/-- LDRH, LDRSB and LDRSH, with every indexing and offset that 44 R253 and R259 allow, complete where the access is not
aborted (44 R253, R254, R256, R257): the halfword at an even address zero- or sign-extended, or the byte sign-extended,
reaches Rd; at an odd address the halfword is free (20 R70, U10); the base is written back as P and W say, Rd winning.
Nothing else changes. That a value loaded to R15 is masked and not faulted is the spec's decision D9 of 10 R32 (log 27). -/
def Obligations.HalfwordLoads : Prop :=
  ∀ (s : State) (op : HdtOp) (k : LoadKind) (c : Cond) (p u w : Bool) (rn rd : Reg) (o : HalfOffset),
    let moved := if u then s.operand rn + s.halfOffset o else s.operand rn - s.halfOffset o
    let a := if p then moved else s.operand rn
    (op = .ldrh ∧ k = .half) ∨ (op = .ldrsb ∧ k = .signedByte) ∨ (op = .ldrsh ∧ k = .signedHalf) →
    s.cpsr.t = false → condPassed c s.cpsr = true → s.isolated = false → (p = false → w = false) → o.rm? ≠ some 15#4 →
    (p = false ∨ w = true → rn ≠ 15#4) → s.aborts a k.size false false s.privileged = false →
    ∃ (t : State) (v : Word), exec (hdtInstr op c p u w rn rd o) s = .next t ∧
      (oddHalf k.size a = false → v = k.loaded s.pins.bigend s.mem a) ∧
      (rd ≠ 15#4 → t.getReg (physReg s.cpsr.m rd) = v ∧ t.pc = s.pc + 4#32) ∧
      (rd = 15#4 → t.pc = (v &&& 0xFFFFFFFC#32) ∧ t.pipe = []) ∧
      (p = false ∨ w = true → rd ≠ rn → t.getReg (physReg s.cpsr.m rn) = moved) ∧ t.cpsr = s.cpsr ∧
      s.frame t (s.dest rd ++ if !p || w then [physReg s.cpsr.m rn] else [])

/-- STRH, with every indexing and offset that 44 R253 and R259 allow, completes at an even address where the access is not
aborted (44 R253, R255, 20 R73): the halfword receives the bottom 16 bits of Rd (R15 reads 12 ahead), or of the old or the
updated base where Rd is the base that is written back (U27); every other byte is unchanged; the base is written back as P
and W say. At an odd address the machine stops: the manual calls it unpredictable (U11). -/
def Obligations.HalfwordStores : Prop :=
  ∀ (s : State) (c : Cond) (p u w : Bool) (rn rd : Reg) (o : HalfOffset),
    let moved := if u then s.operand rn + s.halfOffset o else s.operand rn - s.halfOffset o
    let a := if p then moved else s.operand rn
    Memory.wf s.mem = true → s.cpsr.t = false → condPassed c s.cpsr = true → s.isolated = false →
    (p = false → w = false) → o.rm? ≠ some 15#4 → (p = false ∨ w = true → rn ≠ 15#4) →
    (a.getLsbD 0 = false → s.aborts a .half true false s.privileged = false →
      ∃ (t : State) (v : Word), exec (hdtInstr .strh c p u w rn rd o) s = .next t ∧
        (v = (if rd = 15#4 then s.pc + 12#32 else s.operand rd) ∨ ((p = false ∨ w = true) ∧ rd = rn ∧ v = moved)) ∧
        Size.half.holds s.pins.bigend t.mem a v ∧ s.keepsMemBut t .half a ∧
        (p = false ∨ w = true → t.getReg (physReg s.cpsr.m rn) = moved) ∧ t.cpsr = s.cpsr ∧ t.pc = s.pc + 4#32 ∧
        s.keepsRegs t (if !p || w then [physReg s.cpsr.m rn] else []) ∧ s.keepsSystem t) ∧
    (a.getLsbD 0 = true → exec (hdtInstr .strh c p u w rn rd o) s = .fault .oddHalfwordStore)

/-- An aborted single transfer takes the data abort (44 R246, 60 R447, R448), for every ARM and THUMB load and store of one
register: the base is written back if the form says so, Rd and memory are unchanged, and the link is 8 past the
instruction in both states. -/
def Obligations.AbortedSingleTransfers : Prop :=
  let traps := fun (i : Instr) (s r : State) =>
    ∃ e : BusCycle, e.aborted = true ∧ exec i s = .next ((r.logCycle e).enterException .dataAbort (s.pc + 8#32))
  (∀ (s : State) (op : SdtOp) (c : Cond) (x : Index) (u : Bool) (rn rd : Reg) (o : Offset),
    let moved := if u then s.operand rn + s.offset o else s.operand rn - s.offset o
    let a := if x.before then moved else s.operand rn
    let z : Size := if op = .ldrb ∨ op = .strb then .byte else .word
    condPassed c s.cpsr = true → s.isolated = false → o.rm? ≠ some 15#4 → (x.writesBack = true → rn ≠ 15#4) →
    s.aborts a z (op = .str ∨ op = .strb : Bool) false (x.privileged s) = true →
    traps (sdtInstr op c x u rn rd o) s (if x.writesBack then s.setReg (physReg s.cpsr.m rn) moved else s)) ∧
  (∀ (s : State) (op : HdtOp) (c : Cond) (p u w : Bool) (rn rd : Reg) (o : HalfOffset),
    let moved := if u then s.operand rn + s.halfOffset o else s.operand rn - s.halfOffset o
    let a := if p then moved else s.operand rn
    condPassed c s.cpsr = true → s.isolated = false → (p = false → w = false) → o.rm? ≠ some 15#4 →
    (p = false ∨ w = true → rn ≠ 15#4) → (op = .strh → a.getLsbD 0 = false) →
    s.aborts a (if op = .ldrsb then .byte else .half) (op = .strh : Bool) false s.privileged = true →
    traps (hdtInstr op c p u w rn rd o) s (if !p || w then s.setReg (physReg s.cpsr.m rn) moved else s)) ∧
  (∀ (s : State) (i : Instr) (k : LoadKind) (rd : LoReg) (a : Word), i.thumbLoad s = some (k, rd, a) →
    s.isolated = false → s.aborts a k.size false false s.privileged = true → traps i s s) ∧
  (∀ (s : State) (i : Instr) (z : Size) (rd : LoReg) (a : Word), i.thumbStore s = some (z, rd, a) →
    s.isolated = false → oddHalf z a = false → s.aborts a z true false s.privileged = true → traps i s s)

/-! ### Block transfers and swap -/

/-- A load multiple, LDM without the S bit, POP or LDMIA, completes where no transfer is aborted (45 R267 to R270, R275, R276,
48 R396, R397, R400): each register of the list receives the word at its address, ascending from the lowest register; R15
sends the program there, T unchanged; the base not in the list is written back if W = 1. Nothing else changes. That a
misaligned address uses the word that contains it, and that a word loaded to R15 is masked and not faulted, are the spec's
decisions D12 of 20 R74 (log 30) and D9 of 10 R32 (log 27). -/
def Obligations.LoadMultiple : Prop :=
  ∀ (s : State) (i : Instr) (p u w : Bool) (rn : Reg) (list : BitVec 16),
    i.loadsMany = some (p, u, w, rn, list) → i.wf = true → i.passes s → s.isolated = false →
    let base := s.operand rn
    (∀ r : Reg, list.getLsbD r.toNat = true →
      s.aborts (blockAddress p u base list r) .word false false s.privileged = false) →
    let word := fun r : Reg => Memory.wordAt s.pins.bigend s.mem (blockAddress p u base list r)
    ∃ t : State, exec i s = .next t ∧
      (∀ r : Reg, list.getLsbD r.toNat = true → r ≠ 15#4 → t.getReg (physReg s.cpsr.m r) = word r) ∧
      (list.getLsbD 15 = true → t.pc = alignPc s.cpsr.t (word 15#4) ∧ t.pipe = []) ∧
      (list.getLsbD 15 = false → t.pc = s.pc + s.instrBytes) ∧
      (w = true → list.getLsbD rn.toNat = false → t.getReg (physReg s.cpsr.m rn) = blockFinal u base (listBytes list)) ∧
      (∀ q : PReg, (∀ r : Reg, list.getLsbD r.toNat = true → r ≠ 15#4 → q ≠ physReg s.cpsr.m r) →
        (w = true → q ≠ physReg s.cpsr.m rn) → t.getReg q = s.getReg q) ∧
      t.cpsr = s.cpsr ∧ s.keepsMem t ∧ s.keepsSystem t

/-- A store multiple, STM without the S bit, PUSH or STMIA, completes where no transfer is aborted (45 R267 to R269, R271,
R275, 48 R394, R395, R399): the word at the address of each register of the list receives that register (R15 reads 12
ahead; the base, unless it is the first, the written-back one); every other byte is unchanged; the base is written back if
W = 1. Nothing else changes. Where a transfer is aborted, the S form among them (45 R277, 60 R447, R448): every write is
still issued, those not aborted reach memory, the base is written back, and the data abort is taken, linking 8 past the
instruction. That a misaligned address uses the word that contains it is the spec's decision D12 of 20 R71 and R74 (log
30); that the abort's entry sets I is decision D20 (log 32). -/
def Obligations.StoreMultiple : Prop :=
  (∀ (s : State) (i : Instr) (p u w : Bool) (rn : Reg) (list : BitVec 16),
    i.storesMany = some (p, u, w, rn, list) → i.wf = true → i.passes s → s.isolated = false → Memory.wf s.mem = true →
    let base := s.operand rn
    let final := blockFinal u base (listBytes list)
    let value := fun r : Reg =>
      if r = 15#4 then s.pc + 12#32
      else if r = rn ∧ w = true ∧ rankIn list r ≠ 0 then final
      else s.operand r
    (∀ r : Reg, list.getLsbD r.toNat = true →
      s.aborts (blockAddress p u base list r) .word true false s.privileged = false) →
    ∃ t : State, exec i s = .next t ∧
      (∀ r : Reg, list.getLsbD r.toNat = true →
        Memory.wordAt s.pins.bigend t.mem (blockAddress p u base list r) = value r) ∧
      (∀ a : Nat, (∀ r : Reg, list.getLsbD r.toNat = true → ¬ Size.word.touches (blockAddress p u base list r) a) →
        Memory.get t.mem a = Memory.get s.mem a) ∧
      (w = true → t.getReg (physReg s.cpsr.m rn) = final) ∧
      s.keepsRegs t (if w then [physReg s.cpsr.m rn] else []) ∧ t.pc = s.pc + s.instrBytes ∧ t.cpsr = s.cpsr ∧
      s.keepsSystem t) ∧
  (∀ (s : State) (i : Instr) (user p u w : Bool) (rn : Reg) (list : BitVec 16),
    (user = false ∧ i.storesMany = some (p, u, w, rn, list)) ∨
      (user = true ∧ w = false ∧ s.cpsr.m ≠ modeUsr ∧ ∃ c : Cond, i = .stm c p u true false rn list) →
    i.wf = true → i.passes s → s.isolated = false → Memory.wf s.mem = true →
    let base := s.operand rn
    let final := blockFinal u base (listBytes list)
    let address := blockAddress p u base list
    let stops := fun r : Reg => s.aborts (address r) .word true false s.privileged
    let value := fun r : Reg =>
      if r = 15#4 then s.pc + 12#32
      else if user = true then s.readUser r
      else if r = rn ∧ w = true ∧ rankIn list r ≠ 0 then final
      else s.operand r
    (∃ r : Reg, list.getLsbD r.toNat = true ∧ stops r = true) →
    ∃ t : State, exec i s = .next t ∧ s.inDataAbort t ∧
      (∀ r : Reg, list.getLsbD r.toNat = true → stops r = false →
        Memory.wordAt s.pins.bigend t.mem (address r) = value r) ∧
      (∀ a : Nat, (∀ r : Reg, list.getLsbD r.toNat = true → stops r = false → ¬ Size.word.touches (address r) a) →
        Memory.get t.mem a = Memory.get s.mem a) ∧
      (∃ cs : List BusCycle, t.bus = s.bus ++ cs ∧ cs.map (fun c => c.addr) = (regList list).map address ∧
        cs.map (fun c => c.data) = (regList list).map value ∧ ∀ c ∈ cs, c.write = true ∧ c.fetch = false ∧ c.size = .word) ∧
      (∀ q : PReg, q ≠ .r14Abt →
        t.getReg q = if w = true ∧ q = physReg s.cpsr.m rn then final else s.getReg q))

/-- The S bit of LDM and STM in a privileged mode (45 R272, R273): LDM with R15 in the list loads the current bank, restores
the CPSR from the SPSR and goes on at the word loaded for R15, aligned for the restored state; LDM without R15 loads the
User bank, and STM stores the User bank. In User mode both stop (U33), and LDM with R15 in System mode stops (U6). That a
misaligned address uses the word that contains it, and that the word loaded for R15 is masked and not faulted, are the
spec's decisions D12 of 20 R74 (log 30) and D9 of 10 R32 (log 27). Write-back with the User bank is refused:
`Obligations.ExcludedFormsRefused`. -/
def Obligations.BlockTransferSBit : Prop :=
  (∀ (s : State) (c : Cond) (p u w : Bool) (rn : Reg) (list : BitVec 16) (q : Psr),
    s.cpsr.t = false → condPassed c s.cpsr = true → rn ≠ 15#4 → list.getLsbD 15 = true → s.spsr = some q →
    s.isolated = false → (∀ r : Reg, list.getLsbD r.toNat = true →
      s.aborts (blockAddress p u (s.operand rn) list r) .word false false s.privileged = false) →
    let word := fun r : Reg => Memory.wordAt s.pins.bigend s.mem (blockAddress p u (s.operand rn) list r)
    ∃ t : State, exec (.ldm c p u true w rn list) s = .next t ∧ t.cpsr = q ∧ t.pc = alignPc q.t (word 15#4) ∧
      t.pipe = [] ∧ (∀ r : Reg, list.getLsbD r.toNat = true → r ≠ 15#4 → t.getReg (physReg s.cpsr.m r) = word r) ∧
      (w = true → list.getLsbD rn.toNat = false →
        t.getReg (physReg s.cpsr.m rn) = blockFinal u (s.operand rn) (listBytes list)) ∧
      (∀ y : PReg, (∀ r : Reg, list.getLsbD r.toNat = true → r ≠ 15#4 → y ≠ physReg s.cpsr.m r) →
        (w = true → y ≠ physReg s.cpsr.m rn) → t.getReg y = s.getReg y) ∧ s.keepsMem t ∧ s.keepsSystem t) ∧
  (∀ (s : State) (c : Cond) (p u : Bool) (rn : Reg) (list : BitVec 16),
    s.cpsr.t = false → condPassed c s.cpsr = true → rn ≠ 15#4 → list ≠ 0#16 → list.getLsbD 15 = false →
    s.cpsr.m ≠ modeUsr → s.isolated = false → (∀ r : Reg, list.getLsbD r.toNat = true →
      s.aborts (blockAddress p u (s.operand rn) list r) .word false false s.privileged = false) →
    let word := fun r : Reg => Memory.wordAt s.pins.bigend s.mem (blockAddress p u (s.operand rn) list r)
    ∃ t : State, exec (.ldm c p u true false rn list) s = .next t ∧ t.cpsr = s.cpsr ∧ t.pc = s.pc + 4#32 ∧
      (∀ r : Reg, list.getLsbD r.toNat = true → t.getReg (physReg modeUsr r) = word r) ∧
      (∀ y : PReg, (∀ r : Reg, list.getLsbD r.toNat = true → y ≠ physReg modeUsr r) → t.getReg y = s.getReg y) ∧
      s.keepsMem t ∧ s.keepsSystem t) ∧
  (∀ (s : State) (c : Cond) (p u : Bool) (rn : Reg) (list : BitVec 16),
    s.cpsr.t = false → condPassed c s.cpsr = true → rn ≠ 15#4 → list ≠ 0#16 → s.cpsr.m ≠ modeUsr →
    s.isolated = false → Memory.wf s.mem = true → (∀ r : Reg, list.getLsbD r.toNat = true →
      s.aborts (blockAddress p u (s.operand rn) list r) .word true false s.privileged = false) →
    ∃ t : State, exec (.stm c p u true false rn list) s = .next t ∧ t.cpsr = s.cpsr ∧ t.pc = s.pc + 4#32 ∧
      (∀ r : Reg, list.getLsbD r.toNat = true →
        Memory.wordAt s.pins.bigend t.mem (blockAddress p u (s.operand rn) list r) =
          if r = 15#4 then s.pc + 12#32 else s.readUser r) ∧
      (∀ a : Nat, (∀ r : Reg, list.getLsbD r.toNat = true →
          ¬ Size.word.touches (blockAddress p u (s.operand rn) list r) a) → Memory.get t.mem a = Memory.get s.mem a) ∧
      s.keepsRegs t [] ∧ s.keepsSystem t) ∧
  (∀ (s : State) (c : Cond) (p u w : Bool) (rn : Reg) (list : BitVec 16), condPassed c s.cpsr = true → rn ≠ 15#4 →
    list ≠ 0#16 → s.cpsr.m = modeUsr →
    (list.getLsbD 15 = true ∨ w = false → exec (.ldm c p u true w rn list) s = .fault .userBankInUserMode) ∧
    (w = false → exec (.stm c p u true w rn list) s = .fault .userBankInUserMode)) ∧
  (∀ (s : State) (c : Cond) (p u w : Bool) (rn : Reg) (list : BitVec 16), condPassed c s.cpsr = true → rn ≠ 15#4 →
    list.getLsbD 15 = true → s.cpsr.m = modeSys → exec (.ldm c p u true w rn list) s = .fault .noSpsr)

/-- An aborted load multiple, LDM with or without the S bit, POP or LDMIA (45 R277, 60 R447, R448): the data abort is taken,
linking 8 past the instruction, and no SPSR is copied to the CPSR; the base holds its written-back or its old value,
whatever was loaded; no register at or after the first aborted transfer is loaded, R15 among them, in the current bank or,
for the S form without R15, in the User bank; the registers before it hold the words loaded (60 R448); every transfer is made
on the bus; memory is unchanged. That a misaligned address uses the word that contains it is the spec's decision D12 of 20
R74 (log 30), and that a base in the list of a form with W = 0 holds its old value is DEDUCED (log 63); that the abort's
entry sets I is decision D20 (log 32). -/
def Obligations.AbortedLoadMultiple : Prop :=
  ∀ (s : State) (i : Instr) (user p u w : Bool) (rn : Reg) (list : BitVec 16) (bad : Reg),
    (user = false ∧ i.loadsMany = some (p, u, w, rn, list)) ∨
      (s.cpsr.m ≠ modeUsr ∧ user = !list.getLsbD 15 ∧ (list.getLsbD 15 = true → s.spsr ≠ none) ∧
        ∃ c : Cond, i = .ldm c p u true w rn list) →
    i.wf = true → i.passes s → s.isolated = false →
    let base := s.operand rn
    let address := blockAddress p u base list
    let stops := fun r : Reg => s.aborts (address r) .word false false s.privileged
    let target := fun r : Reg => physReg (if user then modeUsr else s.cpsr.m) r
    let left := if w then blockFinal u base (listBytes list) else base
    list.getLsbD bad.toNat = true → stops bad = true →
    (∀ r : Reg, list.getLsbD r.toNat = true → r.toNat < bad.toNat → stops r = false) →
    ∃ t : State, exec i s = .next t ∧ s.inDataAbort t ∧
      (physReg s.cpsr.m rn ≠ .r14Abt → t.getReg (physReg s.cpsr.m rn) = left) ∧
      (∀ r : Reg, list.getLsbD r.toNat = true → r.toNat < bad.toNat → r ≠ 15#4 → target r ≠ physReg s.cpsr.m rn →
        target r ≠ .r14Abt → t.getReg (target r) = Memory.wordAt s.pins.bigend s.mem (address r)) ∧
      (∀ q : PReg, q ≠ .r14Abt → q ≠ physReg s.cpsr.m rn →
        (∀ r : Reg, list.getLsbD r.toNat = true → r.toNat < bad.toNat → r ≠ 15#4 → q ≠ target r) →
        t.getReg q = s.getReg q) ∧
      (∃ cs : List BusCycle, t.bus = s.bus ++ cs ∧ cs.map (fun c => c.addr) = (regList list).map address ∧
        ∀ c ∈ cs, c.write = false ∧ c.fetch = false ∧ c.size = .word) ∧ s.keepsMem t

/-- SWP and SWPB without R15 (45 R284 to R288): the word, rotated by a misaligned address, or the zero-extended byte at the
address in Rn reaches Rd after Rm's old value is stored there, in two locked accesses; every other byte and register is
unchanged. If either access is aborted, the data abort is taken and Rd is unchanged, and so is memory. That a word store to a
misaligned address goes unrotated to the word that contains it is the spec's choice D12 of 20 R71 (log 30), and that the
write cycle after an aborted read changes no memory is DEDUCED (log 62, 91 N23). -/
def Obligations.Swap : Prop :=
  ∀ (s : State) (byte : Bool) (c : Cond) (rn rd rm : Reg),
    let a := s.operand rn
    let k : LoadKind := if byte then .byte else .word
    let i : Instr := if byte then .swpb c rn rd rm else .swp c rn rd rm
    s.cpsr.t = false → condPassed c s.cpsr = true → rn ≠ 15#4 → rd ≠ 15#4 → rm ≠ 15#4 → s.isolated = false →
    Memory.wf s.mem = true →
    (s.aborts a k.size false false s.privileged = false → s.aborts a k.size true false s.privileged = false →
      ∃ t : State, exec i s = .next t ∧
        t.getReg (physReg s.cpsr.m rd) = k.loaded s.pins.bigend s.mem a ∧
        k.size.holds s.pins.bigend t.mem a (s.operand rm) ∧ s.keepsMemBut t k.size a ∧
        s.keepsRegs t [physReg s.cpsr.m rd] ∧ s.keepsSystem t ∧ t.cpsr = s.cpsr ∧ t.pc = s.pc + 4#32 ∧
        (∃ r w : BusCycle, t.bus = s.bus ++ [r, w] ∧ r.lock = true ∧ w.lock = true ∧ r.write = false ∧ w.write = true ∧
          r.addr = a ∧ w.addr = a)) ∧
    (s.aborts a k.size false false s.privileged = true ∨ s.aborts a k.size true false s.privileged = true →
      ∃ r : State, exec i s = .next (r.enterException .dataAbort (s.pc + 8#32)) ∧ r.regs = s.regs ∧ r.cpsr = s.cpsr ∧
        r.spsrs = s.spsrs ∧ s.keepsMem r)

/-! ### Coprocessors and the debug comms channel -/

/-- The coprocessor handshake (46 R295 to R297, 00 R9; D3): a coprocessor instruction, other than a form the debug comms channel
accepts with DBGEN = 1, takes the Undefined instruction trap where no external coprocessor of its number is attached or that
one answers absent; where it answers busy, nothing happens yet and the instruction is offered again. With DBGEN = 1 every
coprocessor 14 instruction but the three of 61 R499 traps: the spec's decision D22 (log 38). -/
def Obligations.CoprocessorHandshake : Prop :=
  ∀ (s : State) (i : Instr) (cp : BitVec 4), i.coprocessor = some cp → i.wf = true → i.passes s → s.cpsr.t = false →
    (s.pins.dbgen = false ∨ i.commsForm = false) →
    (cp = 14#4 ∨ s.pins.coprocPresent.getLsbD cp.toNat = false ∨ s.inp.cop = .absent →
      exec i s = .next (s.enterException .undefined (s.pc + 4#32))) ∧
    (cp ≠ 14#4 → s.pins.coprocPresent.getLsbD cp.toNat = true → s.inp.cop = .busy → exec i s = .next s)

/-- CDP, MCR and MRC accepted by an external coprocessor (46 R299, R306, R307): CDP and MCR only tell the coprocessor, MCR with
the value of Rd (R15 reads 12 ahead); MRC writes the coprocessor's word to Rd, or its bits 31:28 to the flags for R15.
Nothing else changes. The fetch after an MCR is non-sequential (90 C14). -/
def Obligations.CoprocessorRegisterTransfers : Prop :=
  ∀ (s : State) (c : Cond) (cp crn crm : BitVec 4) (info : BitVec 3) (v : Word) (vs : List Word),
    s.cpsr.t = false → condPassed c s.cpsr = true → cp ≠ 14#4 → s.pins.coprocPresent.getLsbD cp.toNat = true →
    s.inp.cop = .ready v vs →
    (∀ opc crd : BitVec 4, ∃ t : State, exec (.cdp c opc crn crd cp info crm) s = .next t ∧ s.setsFlags t s.cpsr ∧
      t.cpLog = s.cpLog ++ [.operation cp opc crn crd info crm]) ∧
    (∀ (opc : BitVec 3) (rd : Reg), ∃ t : State, exec (.mcr c opc crn rd cp info crm) s = .next t ∧
      s.setsFlags t s.cpsr ∧ t.nonSeq = true ∧ t.cpLog = s.cpLog ++ [.toCoprocessor cp opc crn info crm
        (if rd = 15#4 then s.pc + 12#32 else s.operand rd)]) ∧
    (∀ (opc : BitVec 3) (rd : Reg), rd ≠ 15#4 → ∃ t : State, exec (.mrc c opc crn rd cp info crm) s = .next t ∧
      s.sets t rd v s.cpsr) ∧
    (∀ opc : BitVec 3, ∃ t : State, exec (.mrc c opc crn 15#4 cp info crm) s = .next t ∧
      s.setsFlags t { s.cpsr with n := v.getLsbD 31, z := v.getLsbD 30, c := v.getLsbD 29, v := v.getLsbD 28 })

/-- LDC and STC accepted by an external coprocessor (46 R301 to R304). Where no transfer is aborted, the words at ascending
addresses from the indexed base go to the coprocessor, or receive its words, as many as it takes or supplies; the base is
written back if W = 1; nothing else changes. Where one is aborted, the base is written back, the data abort is taken,
linking 8 past the instruction, and the transfers before it have been made; that no later one is issued is the spec's
decision D16 (log 36). That a misaligned address uses the word that contains it is decision D12 of 20 R74 (log 30); that
the abort's entry sets I is decision D20 (log 32). -/
def Obligations.CoprocessorDataTransfers : Prop :=
  ∀ (s : State) (c : Cond) (p u n w : Bool) (rn : Reg) (crd cp : BitVec 4) (off : BitVec 8) (v : Word) (vs : List Word),
    let base := s.operand rn
    let moved := if u then base + 4#32 * off.setWidth 32 else base - 4#32 * off.setWidth 32
    let start := if p then moved else base
    let address := fun k : Nat => start + BitVec.ofNat 32 (4 * k)
    let stops := fun (write : Bool) (k : Nat) => s.aborts (address k) .word write false s.privileged
    s.cpsr.t = false → condPassed c s.cpsr = true → (w = true → rn ≠ 15#4) → cp ≠ 14#4 →
    s.pins.coprocPresent.getLsbD cp.toNat = true → s.inp.cop = .ready v vs → s.isolated = false →
    ((∀ k : Nat, k ≤ vs.length → stops false k = false) →
      ∃ t : State, exec (.ldc c p u n w rn crd cp off) s = .next t ∧
        t.cpLog = s.cpLog ++ [.load cp crd n ((List.range (vs.length + 1)).map fun k =>
          Memory.wordAt s.pins.bigend s.mem (address k))] ∧
        (w = true → t.getReg (physReg s.cpsr.m rn) = moved) ∧ t.cpsr = s.cpsr ∧ t.pc = s.pc + 4#32 ∧
        s.frame t (if w then [physReg s.cpsr.m rn] else [])) ∧
    (∀ bad : Nat, bad ≤ vs.length → (∀ k : Nat, k < bad → stops false k = false) → stops false bad = true →
      ∃ t : State, exec (.ldc c p u n w rn crd cp off) s = .next t ∧ s.inDataAbort t ∧
        t.cpLog = s.cpLog ++ [.load cp crd n ((List.range bad).map fun k =>
          Memory.wordAt s.pins.bigend s.mem (address k))] ∧
        t.bus.length = s.bus.length + bad + 1 ∧ s.keepsMem t ∧
        (∀ q : PReg, q ≠ .r14Abt →
          t.getReg q = if w = true ∧ q = physReg s.cpsr.m rn then moved else s.getReg q)) ∧
    ((∀ k : Nat, k ≤ vs.length → stops true k = false) → Memory.wf s.mem = true → vs.length < 1073741824 →
      ∃ t : State, exec (.stc c p u n w rn crd cp off) s = .next t ∧
        (∀ k : Nat, k ≤ vs.length → Memory.wordAt s.pins.bigend t.mem (address k) = (v :: vs).getD k 0#32) ∧
        (∀ a : Nat, (∀ k : Nat, k ≤ vs.length → ¬ Size.word.touches (address k) a) →
          Memory.get t.mem a = Memory.get s.mem a) ∧
        (w = true → t.getReg (physReg s.cpsr.m rn) = moved) ∧ t.cpsr = s.cpsr ∧ t.pc = s.pc + 4#32 ∧
        s.keepsRegs t (if w then [physReg s.cpsr.m rn] else []) ∧ s.keepsSystem t) ∧
    (∀ bad : Nat, bad ≤ vs.length → (∀ k : Nat, k < bad → stops true k = false) → stops true bad = true →
      Memory.wf s.mem = true → vs.length < 1073741824 →
      ∃ t : State, exec (.stc c p u n w rn crd cp off) s = .next t ∧ s.inDataAbort t ∧
        (∀ k : Nat, k < bad → Memory.wordAt s.pins.bigend t.mem (address k) = (v :: vs).getD k 0#32) ∧
        (∀ a : Nat, (∀ k : Nat, k < bad → ¬ Size.word.touches (address k) a) →
          Memory.get t.mem a = Memory.get s.mem a) ∧
        t.bus.length = s.bus.length + bad + 1 ∧
        (∀ q : PReg, q ≠ .r14Abt →
          t.getReg q = if w = true ∧ q = physReg s.cpsr.m rn then moved else s.getReg q))

/-- The debug comms channel with DBGEN = 1 (61 R498 to R501): MCR p14,0,Rd,c1,c0 writes the Comms Data Write register and sets
W; MRC p14,0,Rd,c1,c0 gives the Comms Data Read register and clears R; MRC p14,0,Rd,c0,c0 gives the control register, version
0001 on top, W and R in bits 1 and 0. With R15 as Rd, MRC sets the flags from bits 31:28 of that register (46 R306), and MCR
stores the address 12 ahead. Nothing else changes. On the debugger's side, reading address 00101 gives the Write register
and clears W, and writing it sets the Read register and R. The pins COMMRX and COMMTX show R and W inverted. -/
def Obligations.CommsChannel : Prop :=
  (∀ (s : State) (c : Cond) (rd : Reg), s.cpsr.t = false → condPassed c s.cpsr = true → s.pins.dbgen = true →
    let keeps := fun (t : State) (ps : List PReg) (q : Psr) =>
      t.cpsr = q ∧ t.pc = s.pc + 4#32 ∧ t.spsrs = s.spsrs ∧ t.pins = s.pins ∧ s.keepsRegs t ps ∧ s.keepsMem t
    let flags := fun w : Word =>
      { s.cpsr with n := w.getLsbD 31, z := w.getLsbD 30, c := w.getLsbD 29, v := w.getLsbD 28 }
    (∃ t : State, exec (.mcr c 0#3 1#4 rd 14#4 0#3 0#4) s = .next t ∧ keeps t [] s.cpsr ∧ t.nonSeq = true ∧
      t.dbg = { s.dbg with commsWrite := if rd = 15#4 then s.pc + 12#32 else s.operand rd, commsW := true }) ∧
    (rd ≠ 15#4 → ∃ t : State, exec (.mrc c 0#3 1#4 rd 14#4 0#3 0#4) s = .next t ∧
      keeps t [physReg s.cpsr.m rd] s.cpsr ∧ t.getReg (physReg s.cpsr.m rd) = s.dbg.commsRead ∧
      t.dbg = { s.dbg with commsR := false }) ∧
    (∃ t : State, exec (.mrc c 0#3 1#4 15#4 14#4 0#3 0#4) s = .next t ∧ keeps t [] (flags s.dbg.commsRead) ∧
      t.dbg = { s.dbg with commsR := false }) ∧
    (rd ≠ 15#4 → ∃ (t : State) (v : Word), exec (.mrc c 0#3 0#4 rd 14#4 0#3 0#4) s = .next t ∧ s.sets t rd v s.cpsr ∧
      v.extractLsb' 28 4 = 1#4 ∧ v.getLsbD 1 = s.dbg.commsW ∧ v.getLsbD 0 = s.dbg.commsR) ∧
    (∃ t : State, exec (.mrc c 0#3 0#4 15#4 14#4 0#3 0#4) s = .next t ∧
      s.setsFlags t { s.cpsr with n := false, z := false, c := false, v := true })) ∧
  (∀ s : State, (s.iceRead 5#5).dbg.iceOut = some s.dbg.commsWrite ∧ (s.iceRead 5#5).dbg.commsW = false) ∧
  (∀ (g : Debug) (v : Word), (g.iceWrite 5#5 v).commsRead = v ∧ (g.iceWrite 5#5 v).commsR = true) ∧
  (∀ s : State, (s.commrx = true ↔ s.dbg.commsR = false) ∧ (s.commtx = true ↔ s.dbg.commsW = false))

/-! ### THUMB -/

/-- THUMB Formats 1, 2 and 3 complete (47 R316 to R329): the shift by an immediate amount, the additions and subtractions of a
register or an immediate, MOV and CMP of an immediate, each with the flags of its ARM equivalent with S; nothing else
changes. That LSR and ASR with offset 0 shift by 32 is the spec's decision D17 of 47 R316 (log 41). -/
def Obligations.ThumbFormats123 : Prop :=
  ∀ s : State, s.cpsr.t = true →
    (∀ (off : BitVec 5) (rs rd : LoReg),
      let lo := shiftImm .lsl (s.operand (loReg rs)) off s.cpsr.c
      let hi := shiftImm .lsr (s.operand (loReg rs)) off s.cpsr.c
      let ar := shiftImm .asr (s.operand (loReg rs)) off s.cpsr.c
      (∃ t : State, exec (.tLslImm off rs rd) s = .next t ∧
        s.sets t (loReg rd) lo.value (s.cpsr.afterLogical lo.value lo.carry)) ∧
      (∃ t : State, exec (.tLsrImm off rs rd) s = .next t ∧
        s.sets t (loReg rd) hi.value (s.cpsr.afterLogical hi.value hi.carry)) ∧
      (∃ t : State, exec (.tAsrImm off rs rd) s = .next t ∧
        s.sets t (loReg rd) ar.value (s.cpsr.afterLogical ar.value ar.carry))) ∧
    (∀ (rn rs rd : LoReg) (off : BitVec 3),
      let a := s.operand (loReg rs)
      let b := s.operand (loReg rn)
      let k : Word := off.setWidth 32
      (∃ (t : State) (q : Psr), exec (.tAddReg rn rs rd) s = .next t ∧ s.sets t (loReg rd) (a + b) q ∧
        s.cpsr.afterArith q .add a b) ∧
      (∃ (t : State) (q : Psr), exec (.tSubReg rn rs rd) s = .next t ∧ s.sets t (loReg rd) (a - b) q ∧
        s.cpsr.afterArith q .sub a b) ∧
      (∃ (t : State) (q : Psr), exec (.tAddImm3 off rs rd) s = .next t ∧ s.sets t (loReg rd) (a + k) q ∧
        s.cpsr.afterArith q .add a k) ∧
      (∃ (t : State) (q : Psr), exec (.tSubImm3 off rs rd) s = .next t ∧ s.sets t (loReg rd) (a - k) q ∧
        s.cpsr.afterArith q .sub a k)) ∧
    (∀ (rd : LoReg) (off : BitVec 8),
      let a := s.operand (loReg rd)
      let k : Word := off.setWidth 32
      (∃ t : State, exec (.tMovImm rd off) s = .next t ∧
        s.sets t (loReg rd) k (s.cpsr.afterLogical k s.cpsr.c)) ∧
      (∃ (t : State) (q : Psr), exec (.tCmpImm rd off) s = .next t ∧ s.setsFlags t q ∧ s.cpsr.afterArith q .sub a k) ∧
      (∃ (t : State) (q : Psr), exec (.tAddImm8 rd off) s = .next t ∧ s.sets t (loReg rd) (a + k) q ∧
        s.cpsr.afterArith q .add a k) ∧
      (∃ (t : State) (q : Psr), exec (.tSubImm8 rd off) s = .next t ∧ s.sets t (loReg rd) (a - k) q ∧
        s.cpsr.afterArith q .sub a k))

/-- THUMB Format 4 completes (47 R331 to R346). The logical operations and the shifts by the low byte of Rs write Rd, except
TST; N and Z are the result's, C the shifter's for a shift and unchanged otherwise, V unchanged. ADC, SBC and NEG write Rd,
CMP and CMN do not, each with the arithmetic flags. MUL writes Rs * Rd modulo 2^32 with N and Z of it, C free, V unchanged,
where Rs is not Rd, and free values where it is (U25). Nothing else changes. -/
def Obligations.ThumbFormat4 : Prop :=
  ∀ (s : State) (rs rd : LoReg), s.cpsr.t = true →
    let a := s.operand (loReg rd)
    let b := s.operand (loReg rs)
    let writes := fun (i : Instr) (v : Word) (carry : Bool) =>
      ∃ t : State, exec i s = .next t ∧ s.sets t (loReg rd) v (s.cpsr.afterLogical v carry)
    let shifts := fun (i : Instr) (ty : ShiftType) =>
      writes i (shiftReg ty a (b.extractLsb' 0 8) s.cpsr.c).value (shiftReg ty a (b.extractLsb' 0 8) s.cpsr.c).carry
    writes (.tAnd rs rd) (a &&& b) s.cpsr.c ∧ writes (.tEor rs rd) (a ^^^ b) s.cpsr.c ∧
    writes (.tOrr rs rd) (a ||| b) s.cpsr.c ∧ writes (.tBic rs rd) (a &&& ~~~b) s.cpsr.c ∧
    writes (.tMvn rs rd) (~~~b) s.cpsr.c ∧
    shifts (.tLslReg rs rd) .lsl ∧ shifts (.tLsrReg rs rd) .lsr ∧ shifts (.tAsrReg rs rd) .asr ∧
    shifts (.tRorReg rs rd) .ror ∧
    (∃ t : State, exec (.tTst rs rd) s = .next t ∧ s.setsFlags t (s.cpsr.afterLogical (a &&& b) s.cpsr.c)) ∧
    (∃ (t : State) (q : Psr), exec (.tAdc rs rd) s = .next t ∧
      s.sets t (loReg rd) (AluOp.adc.result a b s.cpsr.c) q ∧ s.cpsr.afterArith q .adc a b) ∧
    (∃ (t : State) (q : Psr), exec (.tSbc rs rd) s = .next t ∧
      s.sets t (loReg rd) (AluOp.sbc.result a b s.cpsr.c) q ∧ s.cpsr.afterArith q .sbc a b) ∧
    (∃ (t : State) (q : Psr), exec (.tNeg rs rd) s = .next t ∧ s.sets t (loReg rd) (-b) q ∧
      s.cpsr.afterArith q .sub 0#32 b) ∧
    (∃ (t : State) (q : Psr), exec (.tCmp rs rd) s = .next t ∧ s.setsFlags t q ∧ s.cpsr.afterArith q .sub a b) ∧
    (∃ (t : State) (q : Psr), exec (.tCmn rs rd) s = .next t ∧ s.setsFlags t q ∧ s.cpsr.afterArith q .add a b) ∧
    (∃ (t : State) (v : Word) (q : Psr), exec (.tMul rs rd) s = .next t ∧ s.sets t (loReg rd) v q ∧
      (rs ≠ rd → v = BitVec.ofNat 32 (b.toNat * a.toNat) ∧ q.n = v.getLsbD 31 ∧ q.z = (v == 0#32)) ∧
      q.v = s.cpsr.v ∧ s.cpsr.keepsControl q)

/-- THUMB Format 5 ADD, CMP and MOV with a Hi register complete (47 R348 to R351): ADD and MOV write the destination (R15: the
program goes on there, in THUMB state) and no flag; CMP writes the flags only; R15 reads 4 ahead. Nothing else changes. -/
def Obligations.ThumbHiRegisters : Prop :=
  ∀ (s : State) (i : Instr) (d a : Reg), s.cpsr.t = true →
    let goes := fun v : Word =>
      (d ≠ 15#4 → ∃ t : State, exec i s = .next t ∧ s.sets t d v s.cpsr) ∧
      (d = 15#4 → ∃ t : State, exec i s = .next t ∧ s.jumps t v s.cpsr)
    (i.hiAdd = some (d, a) → goes (s.operand d + s.operand a)) ∧
    (i.hiMov = some (d, a) → goes (s.operand a)) ∧
    (i.hiCmp = some (d, a) → ∃ (t : State) (q : Psr), exec i s = .next t ∧ s.setsFlags t q ∧
      s.cpsr.afterArith q .sub (s.operand d) (s.operand a))

/-- THUMB Formats 12 and 13 complete (47 R355, R356, R358): Rd receives the PC, 4 ahead with bit 1 cleared, or SP, plus four
times the immediate; SP moves up or down by four times the immediate; no flag changes, and nothing else does. -/
def Obligations.ThumbAddressArithmetic : Prop :=
  ∀ (s : State) (rd : LoReg) (imm : BitVec 8) (k : BitVec 7), s.cpsr.t = true →
    (∃ t : State, exec (.tAddPc rd imm) s = .next t ∧
      s.sets t (loReg rd) (((s.pc + 4#32) &&& 0xFFFFFFFC#32) + BitVec.ofNat 32 (4 * imm.toNat)) s.cpsr) ∧
    (∃ t : State, exec (.tAddSp rd imm) s = .next t ∧
      s.sets t (loReg rd) (s.operand 13#4 + BitVec.ofNat 32 (4 * imm.toNat)) s.cpsr) ∧
    (∃ t : State, exec (.tAddSpPos k) s = .next t ∧
      s.sets t 13#4 (s.operand 13#4 + BitVec.ofNat 32 (4 * k.toNat)) s.cpsr) ∧
    (∃ t : State, exec (.tAddSpNeg k) s = .next t ∧
      s.sets t 13#4 (s.operand 13#4 - BitVec.ofNat 32 (4 * k.toNat)) s.cpsr)

/-- The loads of THUMB Formats 6 to 11 complete where the access is not aborted (48 R370 to R391): Rd receives the word, rotated
by a misaligned address, the zero- or sign-extended byte, or the zero- or sign-extended halfword at an even address, at the
address that the format gives; at an odd address the halfword is free (20 R70, U10). Nothing else changes. -/
def Obligations.ThumbLoads : Prop :=
  ∀ (s : State) (i : Instr) (k : LoadKind) (rd : LoReg) (a : Word),
    s.cpsr.t = true → i.thumbLoad s = some (k, rd, a) → s.isolated = false →
    s.aborts a k.size false false s.privileged = false →
    ∃ (t : State) (v : Word), exec i s = .next t ∧ s.sets t (loReg rd) v s.cpsr ∧
      (oddHalf k.size a = false → v = k.loaded s.pins.bigend s.mem a)

/-- The stores of THUMB Formats 7 to 11 complete where the access is not aborted (48 R374 to R390): the word that contains the
address, the halfword at an even address or the byte at the address that the format gives receives Rd; every other byte is
unchanged, and nothing else changes. A halfword store to an odd address stops: the manual calls it unpredictable (20 R73,
U11). That a word store to a misaligned address goes unrotated to the word that contains it is the spec's choice D12 of 20
R71 (log 30). -/
def Obligations.ThumbStores : Prop :=
  ∀ (s : State) (i : Instr) (z : Size) (rd : LoReg) (a : Word),
    s.cpsr.t = true → i.thumbStore s = some (z, rd, a) → s.isolated = false → Memory.wf s.mem = true →
    (oddHalf z a = false → s.aborts a z true false s.privileged = false →
      ∃ t : State, exec i s = .next t ∧ z.holds s.pins.bigend t.mem a (s.operand (loReg rd)) ∧ s.keepsMemBut t z a ∧
        t.cpsr = s.cpsr ∧ t.pc = s.pc + 2#32 ∧ s.keepsRegs t [] ∧ s.keepsSystem t) ∧
    (oddHalf z a = true → exec i s = .fault .oddHalfwordStore)

/-! ### Debug -/

/-- Entry to debug state with DBGEN = 1 (61 R472 to R476, R493, R496). A debug request, before the interrupts, or else the
breakpoint mark of the instruction, after them, stops the core before the instruction executes, with the PC ahead by two
instructions or by three, which with the return branch's own prefetch makes the 3 and 4 of R496. A matched data access
stops it after the instruction: with the PC three ahead of the next one; after the data abort that the instruction took, or
after the entry of an interrupt pending at its end, two ahead of the vector; in an illegal mode it does not, which is the
model's choice (log 60). Registers and memory are kept. Bit 33 captures LOW on a breakpoint and HIGH on a watchpoint; on a
request it is free (log 66). -/
def Obligations.DebugEntry : Prop :=
  (∀ s : State,
    let inp := s.env.headD Inputs.inactive
    let b := s.beginStep
    s.pins.dbgen = true → legalMode s.cpsr.m = true → s.resetCycles = 0 → inp.nRESET = true → s.tapIdle →
    (s.dbg.active = false → inp.dbgrq = true ∨ s.dbg.dbgrqLatch = true →
      ∃ t : State, step s = .next t ∧ t.dbg.active = true ∧ t.pc = s.pc + s.instrBytes + s.instrBytes ∧
        b.sameCore t) ∧
    (s.running → s.quiet → (b.slot 0).aborted = false →
      (b.slot 0).breakpoint = true ∨ (s.pipe = [] ∧ inp.breakpt.getD 0 false = true) →
      ∃ t : State, step s = .next t ∧ t.dbg.active = true ∧ t.dbg.captured33 = false ∧
        t.pc = s.pc + s.instrBytes + s.instrBytes + s.instrBytes ∧ b.sameCore t) ∧
    (s.dbg.active = true → ∃ t : State, step s = .next t ∧ t.dbg.active = true ∧ t.pc = s.pc ∧ b.sameCore t)) ∧
  (∀ t before : State,
    let data := t.bus.filter fun c => !c.fetch
    let open_ := t.dbg.active = false ∧ t.dbg.intdis = false
    let u := t.endInstruction before
    let enters := fun (r : State) (pc : Word) =>
      r.sameCore u ∧ u.dbg.active = true ∧ u.dbg.captured33 = true ∧ u.pc = pc
    t.pins.dbgen = true → (t.iceCycles data).1 = true →
    (legalMode t.cpsr.m = false → t.sameCore u ∧ u.dbg.active = t.dbg.active ∧ u.pc = t.pc) ∧
    (legalMode t.cpsr.m = true → (∃ c ∈ data, c.aborted = true) → enters t (t.pc + t.instrBytes + t.instrBytes)) ∧
    (legalMode t.cpsr.m = true → (∀ c ∈ data, c.aborted = false) →
      (¬ open_ ∨ ((t.cpsr.f = true ∨ t.inp.nFIQEnd = true) ∧ (t.cpsr.i = true ∨ t.inp.nIRQEnd = true)) →
        enters t (t.pc + t.instrBytes + t.instrBytes + t.instrBytes)) ∧
      (open_ → t.cpsr.f = false → t.inp.nFIQEnd = false →
        enters (t.enterException .fiq (t.pc + 4#32)) (0x1C#32 + 8#32)) ∧
      (open_ → t.cpsr.f = true ∨ t.inp.nFIQEnd = true → t.cpsr.i = false → t.inp.nIRQEnd = false →
        enters (t.enterException .irq (t.pc + 4#32)) (0x18#32 + 8#32))))

/-- What the debugger's scans make the stopped core do (61 R493, R495, R496): an instruction scanned after a scan with bit 33
LOW executes at debug speed, on the data scanned in, and the PC advances by one instruction; one scanned after a scan with
bit 33 HIGH waits; a waiting load or store executes at system speed on BYPASS, outside the isolation, and the PC advances by
three; a waiting branch executes in RUN-TEST/IDLE with RESTART loaded, after at least two instructions, and debug state is
left. The model's own: the half of a scanned word that a THUMB instruction is taken from is DEDUCED (log 49), as is that a
watchpoint match in the access has no further effect (log 57); that no interrupt is taken during the access, and that no
instruction is fetched, is its choice (logs 71, 74). -/
def Obligations.DebugStateExecution : Prop :=
  ∀ (s : State) (i : Instr) (w : Word),
    let inp := s.env.headD Inputs.inactive
    let b := s.beginStep
    s.pins.dbgen = true → legalMode s.cpsr.m = true → s.resetCycles = 0 → inp.nRESET = true → inp.nTRST = true →
    s.dbg.active = true → s.dbg.systemSpeed = false →
    (if s.cpsr.t then decodeThumb (laneHalf s.pins.bigend w s.pc) else decodeArm w) = .ok i →
    (∀ (bit33 : Bool) (data : List Word), inp.dbg = .scan bit33 w data → s.dbg.scanSelect = 1#4 →
      s.dbg.tapIr = 0b1100#4 → s.dbg.pending = none → s.dbg.refill = 0 →
      (s.dbg.scanned33 = false → debugUse i ≠ .branch → debugUse i ≠ .illegal →
        ∃ r : State, b.sameCore r ∧ r.pc = s.pc ∧ r.isolated = true ∧ r.dbg.scanIn = data ∧ r.hazard = s.hazard ∧
          ∀ u : State, exec i r = .next u → ∃ t : State, step s = .next t ∧ u.sameCore t ∧ t.mem = b.mem ∧ t.bus = [] ∧
            t.pc = u.pc ∧ t.dbg.active = true ∧ t.dbg.scanned33 = bit33 ∧ t.dbg.executed = s.dbg.executed + 1 ∧
            t.dbg.scanOut = u.dbg.scanOut) ∧
      (s.dbg.scanned33 = true → ∃ t : State, step s = .next t ∧ b.sameCore t ∧ t.pc = s.pc ∧ t.dbg.active = true ∧
        t.dbg.pending = some w ∧ t.dbg.scanned33 = bit33)) ∧
    (s.dbg.pending = some w → debugUse i = .access → inp.dbg = .loadIr 0b1111#4 →
      ∃ r : State, b.sameCore r ∧ r.pc = s.pc ∧ r.isolated = false ∧ r.hazard = s.hazard ∧
        ∀ u : State, exec i r = .next u → (∀ c ∈ u.bus, c.aborted = false) →
          ∃ t : State, step s = .next t ∧ u.sameCore t ∧ t.dbg.active = true ∧ t.isolated = true ∧
            t.dbg.captured33 = true ∧ t.dbg.pending = none ∧ t.dbg.executed = s.dbg.executed + 1 ∧
            (u.pipe ≠ [] → t.pc = u.pc + u.instrBytes + u.instrBytes)) ∧
    (s.dbg.pending = some w → debugUse i = .branch ∨ debugUse i = .writesPc → s.dbg.tapIr = 0b0100#4 →
      2 ≤ s.dbg.executed → inp.dbg = .runTestIdle →
      ∃ r : State, b.sameCore r ∧ r.pc = s.pc ∧ r.hazard = s.hazard ∧
        ∀ u : State, exec i r = .next u → ∃ t : State, step s = .next t ∧ u.sameCore t ∧ t.pc = u.pc ∧ t.pipe = [] ∧
          t.dbg.active = false ∧ t.dbg.pending = none)

/-- In debug state, outside a system-speed access, the core is isolated from memory (61 R475, R493): no instruction changes a
byte of memory or makes a bus cycle. -/
def Obligations.DebugStateIsolatesMemory : Prop :=
  ∀ (i : Instr) (s t : State), s.isolated = true → exec i s = .next t → t.mem = s.mem ∧ t.bus = s.bus

/-- With DBGEN = 0 no step enters debug state, or changes any debug register, the TAP's among them, even with nTRST LOW. For the
core this is 61 R491; for the TAP registers it is the model's choice, DEDUCED from R470 ("All of it is inert when DBGEN =
0") and R491 against R484 and R503, which give nTRST an effect without naming DBGEN (log 55, unsafe for those registers). -/
def Obligations.DebugDisabled : Prop :=
  ∀ s t : State, s.pins.dbgen = false → s.dbg.active = false → step s = .next t →
    t.pins.dbgen = false ∧ t.dbg = { s.dbg with scanIn := [], scanOut := [], iceOut := none, tapOut := none }

/-- The debug registers (61 R480, R484, R488, R489, R502, R503). A write of debug control or of a watchpoint register reads
back, in the register's own width, and leaves every other register of both units as it was. The external DBGACK is the core's
ORed with bit 0 of debug control; LOW with DBGEN LOW (R491). With DBGEN = 1: debug status shows, from bit 4 down, TBIT, nMREQ
(HIGH in debug state), IFEN, DBGRQI and the core's DBGACK; a TAP instruction is loaded and 0001 captured; with SCAN_N a chain
is selected and 1000 captured; IDCODE shifts out a word with bit 0 set, BYPASS, the unused codes and RESTART a 0, and keep the last bit
shifted in; the request latch opens in RUN-TEST/IDLE. A step with nTRST LOW leaves IDCODE, scan chain 3 and CHAINOUT clear. The
model's choices: bits 1 and 0 of debug status (log 69); that chain numbers past 3 are refused (log 75; reserved 4 is C24);
with nTRST LOW the bypass register, the latch and a waiting instruction are kept (log 67) and no command acts (log 70). -/
def Obligations.DebugRegisters : Prop :=
  (∀ (s : State) (v : Word),
    let after := fun a : BitVec 5 => ({ s with dbg := s.dbg.iceWrite a v } : State)
    (∀ a : BitVec 5, a ∈ [8#5, 9#5, 10#5, 11#5, 16#5, 17#5, 18#5, 19#5] → (after a).iceRegister a = v) ∧
    (∀ a : BitVec 5, a ∈ [12#5, 20#5] → (after a).iceRegister a = v &&& 0x1FF#32) ∧
    (∀ a : BitVec 5, a ∈ [13#5, 21#5] → (after a).iceRegister a = v &&& 0xFF#32) ∧
    (after 0#5).iceRegister 0#5 = v &&& 7#32 ∧
    (∀ a a' : BitVec 5, a ≠ a' → a' ∈ [8#5, 9#5, 10#5, 11#5, 12#5, 13#5, 16#5, 17#5, 18#5, 19#5, 20#5, 21#5] →
      (after a).iceRegister a' = s.iceRegister a') ∧
    ((after 0#5).dbgackPin = true ↔
      s.pins.dbgen = true ∧ ((s.dbg.active = true ∧ s.dbg.systemSpeed = false) ∨ v.getLsbD 0 = true))) ∧
  (∀ s : State, s.pins.dbgen = true → s.inp.nTRST = true →
    let now := fun g : Debug => s.tapStep = some { s with dbg := g }
    (s.dbg.scanSelect = 2#4 → s.dbg.tapIr = 0b1100#4 →
      (s.inp.dbg = .iceRead 1#5 → ∃ w : Word, now { s.dbg with iceOut := some w } ∧ w.extractLsb' 5 27 = 0#27 ∧
        w.getLsbD 4 = s.cpsr.t ∧ (s.dbg.active = true → w.getLsbD 3 = true) ∧
        (w.getLsbD 2 = true ↔ s.dbg.active = false ∧ s.dbg.intdis = false) ∧
        (w.getLsbD 1 = true ↔ s.inp.dbgrq = true ∨ s.dbg.dbgrqLatch = true) ∧ w.getLsbD 0 = s.dbg.active) ∧
      (∀ a : BitVec 5, s.inp.dbg = .iceRead a → s.tapStep = some (s.iceRead a)) ∧
      (∀ (a : BitVec 5) (v : Word), s.inp.dbg = .iceWrite a v → now (s.dbg.iceWrite a v))) ∧
    (∀ ir : BitVec 4, s.inp.dbg = .loadIr ir →
      ∃ x : Bool, now { s.dbg with tapIr := ir, bypass := x, tapOut := some 0b0001#32 }) ∧
    (∀ n : BitVec 4, s.inp.dbg = .selectChain n → s.dbg.tapIr = 0b0010#4 →
      (n.toNat < 4 → now { s.dbg with scanSelect := n, tapOut := some 0b1000#32 }) ∧
      (4 ≤ n.toNat → s.tapStep = none)) ∧
    (∀ last : Bool, s.inp.dbg = .scanDr last →
      (s.dbg.tapIr = 0b1110#4 → ∃ w : Word, w.getLsbD 0 = true ∧ now { s.dbg with tapOut := some w }) ∧
      (s.dbg.tapIr ∈ [0b1111#4, 0b0100#4, 0b0001#4, 0b0110#4, 0b1000#4, 0b1010#4, 0b1011#4, 0b1101#4] → now { s.dbg with bypass := last, tapOut := some 0#32 })) ∧
    (s.inp.dbg = .runTestIdle → now { s.dbg with dbgrqLatch := s.dbg.dbgrq })) ∧
  (∀ s : State, s.pins.dbgen = true → s.inp.nTRST = false → ∃ g : Debug, s.tapStep = some { s with dbg := g } ∧
    g.tapIr = 0b1110#4 ∧ g.scanSelect = 3#4 ∧ g.chainOut = false ∧ g.bypass = s.dbg.bypass ∧ g.active = s.dbg.active ∧
    g.captured33 = s.dbg.captured33 ∧ g.scanned33 = s.dbg.scanned33 ∧ g.pending = s.dbg.pending ∧
    g.executed = s.dbg.executed ∧ g.refill = s.dbg.refill ∧ g.dbgrqLatch = s.dbg.dbgrqLatch) ∧
  (∀ s t : State, s.pins.dbgen = true → (s.env.headD Inputs.inactive).nTRST = false → step s = .next t →
    t.dbg.tapIr = 0b1110#4 ∧ t.dbg.scanSelect = 3#4 ∧ t.dbg.chainOut = false ∧ t.dbg.bypass = s.dbg.bypass) ∧
  (∀ s : State, (s.env.headD Inputs.inactive).nRESET = true → s.resetCycles = 0 →
    (∀ u : State, s.beginStep.tapStep = some u → step s = u.runStep) ∧
    (s.beginStep.tapStep = none → step s = .refused .debugProtocol))
end

