-- ==== Sys2Proof/Laws/Memory.lean ====
section
/-! SUPPORT. Memory: a read after a write, and the one form of the list kept by every memory operation. -/

namespace Sys2Proof.Machine

/-! ### One byte -/

theorem Memory.get_of_lt (m : List Host.Cell) : ∀ (low a : Nat), Memory.wfFrom low m = true → a < low →
    Memory.get m a = unlistedByte := by
  induction m with
  | nil => intro low a _ _; rfl
  | cons c rest ih =>
    obtain ⟨b, w⟩ := c
    intro low a h ha
    simp only [Memory.wfFrom, Bool.and_eq_true, decide_eq_true_eq] at h
    have hne : a ≠ b := by omega
    simp only [Memory.get, if_neg hne]
    exact ih (b + 1) a h.2 (by omega)

theorem Memory.wfFrom_le (m : List Host.Cell) (low low' : Nat) (h : Memory.wfFrom low m = true) (hl : low' ≤ low) :
    Memory.wfFrom low' m = true := by
  cases m with
  | nil => rfl
  | cons c rest =>
    simp only [Memory.wfFrom, Bool.and_eq_true, decide_eq_true_eq] at h ⊢
    exact ⟨⟨⟨by omega, h.1.1.2⟩, h.1.2⟩, h.2⟩

/-- A write keeps the form of a list from any lower bound of the address written. -/
theorem Memory.wfFrom_set (m : List Host.Cell) : ∀ (low a : Nat) (v : Byte), Memory.wfFrom low m = true → low ≤ a →
    a < 4294967296 → Memory.wfFrom low (Memory.set m a v) = true := by
  induction m with
  | nil =>
    intro low a v _ hl ha
    by_cases hv : v = unlistedByte
    · simp [Memory.set, hv, Memory.wfFrom]
    · simp [Memory.set, hv, Memory.wfFrom, hl, ha]
  | cons c rest ih =>
    obtain ⟨b, w⟩ := c
    intro low a v h hl ha
    have h0 := h
    simp only [Memory.wfFrom, Bool.and_eq_true, decide_eq_true_eq, bne_iff_ne, ne_eq] at h
    obtain ⟨⟨⟨hb, hb2⟩, hw⟩, hr⟩ := h
    unfold Memory.set
    by_cases hab : a < b
    · rw [if_pos hab]
      by_cases hv : v = unlistedByte
      · rw [if_pos hv]; exact h0
      · rw [if_neg hv]
        simp only [Memory.wfFrom, Bool.and_eq_true, decide_eq_true_eq, bne_iff_ne, ne_eq]
        exact ⟨⟨⟨hl, ha⟩, hv⟩, ⟨⟨⟨by omega, hb2⟩, hw⟩, hr⟩⟩
    · rw [if_neg hab]
      by_cases he : a = b
      · subst he
        rw [if_pos rfl]
        by_cases hv : v = unlistedByte
        · rw [if_pos hv]; exact Memory.wfFrom_le rest (a + 1) low hr (by omega)
        · rw [if_neg hv]
          simp only [Memory.wfFrom, Bool.and_eq_true, decide_eq_true_eq, bne_iff_ne, ne_eq]
          exact ⟨⟨⟨hl, ha⟩, hv⟩, hr⟩
      · rw [if_neg he]
        simp only [Memory.wfFrom, Bool.and_eq_true, decide_eq_true_eq, bne_iff_ne, ne_eq]
        exact ⟨⟨⟨hb, hb2⟩, hw⟩, ih (b + 1) a v hr (by omega) ha⟩

/-- A read after a write, in a list of the one form. -/
theorem Memory.get_set_from (m : List Host.Cell) : ∀ (low a : Nat) (v : Byte) (x : Nat), Memory.wfFrom low m = true →
    Memory.get (Memory.set m a v) x = if x = a then v else Memory.get m x := by
  induction m with
  | nil =>
    intro low a v x _
    by_cases hv : v = unlistedByte <;> by_cases hx : x = a <;> simp [Memory.set, Memory.get, hv, hx]
  | cons c rest ih =>
    obtain ⟨b, w⟩ := c
    intro low a v x h
    simp only [Memory.wfFrom, Bool.and_eq_true, decide_eq_true_eq, bne_iff_ne, ne_eq] at h
    obtain ⟨⟨⟨hb, hb2⟩, hw⟩, hr⟩ := h
    unfold Memory.set
    by_cases hab : a < b
    · rw [if_pos hab]
      by_cases hv : v = unlistedByte
      · rw [if_pos hv]
        by_cases hx : x = a
        · have hxb : x ≠ b := by omega
          simp only [Memory.get, if_neg hxb, if_pos hx, hv]
          exact Memory.get_of_lt rest (b + 1) x hr (by omega)
        · rw [if_neg hx]
      · rw [if_neg hv]; simp only [Memory.get]
    · rw [if_neg hab]
      by_cases he : a = b
      · subst he
        rw [if_pos rfl]
        by_cases hv : v = unlistedByte
        · rw [if_pos hv]
          by_cases hx : x = a
          · rw [if_pos hx, hv]; exact Memory.get_of_lt rest (a + 1) x hr (by omega)
          · simp only [if_neg hx, Memory.get]
        · rw [if_neg hv]
          by_cases hx : x = a <;> simp [Memory.get, hx]
      · rw [if_neg he]
        simp only [Memory.get]
        by_cases hx : x = b
        · have : x ≠ a := by omega
          simp [hx, Ne.symm he]
        · rw [if_neg hx, ih (b + 1) a v x hr]
          by_cases hxa : x = a <;> simp [hxa, hx]

/-- A read after a write. -/
theorem Memory.get_set (m : List Host.Cell) (a : Nat) (v : Byte) (x : Nat) (h : Memory.wf m = true) :
    Memory.get (Memory.set m a v) x = if x = a then v else Memory.get m x :=
  Memory.get_set_from m 0 a v x h

/-! ### Every memory operation keeps the one form -/

theorem Memory.wf_set (m : List Host.Cell) (a : Nat) (v : Byte) (h : Memory.wf m = true) (ha : a < 4294967296) :
    Memory.wf (Memory.set m a v) = true :=
  Memory.wfFrom_set m 0 a v h (Nat.zero_le a) ha

theorem Memory.wf_putByte (m : List Host.Cell) (a : Word) (v : Byte) (h : Memory.wf m = true) :
    Memory.wf (Memory.putByte m a v) = true :=
  Memory.wf_set m a.toNat v h a.isLt

theorem Memory.wf_putHalf (big : Bool) (m : List Host.Cell) (a : Word) (v : Half) (h : Memory.wf m = true) :
    Memory.wf (Memory.putHalf big m a v) = true := by
  unfold Memory.putHalf
  split <;> exact Memory.wf_putByte _ _ _ (Memory.wf_putByte _ _ _ h)

theorem Memory.wf_putWord (big : Bool) (m : List Host.Cell) (a v : Word) (h : Memory.wf m = true) :
    Memory.wf (Memory.putWord big m a v) = true := by
  unfold Memory.putWord
  split <;> exact Memory.wf_putByte _ _ _ (Memory.wf_putByte _ _ _ (Memory.wf_putByte _ _ _ (Memory.wf_putByte _ _ _ h)))

theorem Memory.wf_writeCells (cs : List Host.Cell) : ∀ m : List Host.Cell, Memory.wf m = true →
    Memory.wf (Memory.writeCells m cs) = true := by
  induction cs with
  | nil => exact fun m h => h
  | cons c rest ih =>
    obtain ⟨a, v⟩ := c
    exact fun m h => ih _ (Memory.wf_set m _ v h (Nat.mod_lt _ (by decide)))

/-- The memory of the reset state has the one form. -/
theorem Memory.wf_reset : Memory.wf State.reset.mem = true := rfl

/-- Two lists of the one form that read alike are equal. -/
theorem Memory.get_head (low b : Nat) (w : Byte) (rest : List Host.Cell)
    (h : Memory.wfFrom low ((b, w) :: rest) = true) : Memory.get ((b, w) :: rest) b ≠ unlistedByte := by
  simp only [Memory.wfFrom, Bool.and_eq_true, decide_eq_true_eq, bne_iff_ne, ne_eq] at h
  simpa [Memory.get] using h.1.2

/-! ### Bytes, halfwords and words -/

theorem Memory.byteAt_putByte (m : List Host.Cell) (a : Word) (v : Byte) (x : Word) (h : Memory.wf m = true) :
    Memory.byteAt (Memory.putByte m a v) x = if x = a then v else Memory.byteAt m x := by
  unfold Memory.byteAt Memory.putByte
  rw [Memory.get_set m _ _ _ h]
  simp only [BitVec.toNat_inj]

theorem Memory.get_putByte (m : List Host.Cell) (a : Word) (v : Byte) (x : Nat) (h : Memory.wf m = true) :
    Memory.get (Memory.putByte m a v) x = if x = a.toNat then v else Memory.get m x :=
  Memory.get_set m _ _ _ h

end Sys2Proof.Machine
end

