-- ==== Sys2Proof/Laws/State.lean ====
section
/-! SUPPORT. One lemma for each field of the state under each update, true by computation, so that no proof unfolds an
update. -/

namespace Sys2Proof.Machine

variable (s : State)

/-! ### `State.setReg` -/

@[simp] theorem State.setReg_regs (p : PReg) (v : Word) : (s.setReg p v).regs = s.regs.set p.index v := rfl
@[simp] theorem State.setReg_pc (p : PReg) (v : Word) : (s.setReg p v).pc = s.pc := rfl
@[simp] theorem State.setReg_cpsr (p : PReg) (v : Word) : (s.setReg p v).cpsr = s.cpsr := rfl
@[simp] theorem State.setReg_spsrs (p : PReg) (v : Word) : (s.setReg p v).spsrs = s.spsrs := rfl
@[simp] theorem State.setReg_mem (p : PReg) (v : Word) : (s.setReg p v).mem = s.mem := rfl
@[simp] theorem State.setReg_pipe (p : PReg) (v : Word) : (s.setReg p v).pipe = s.pipe := rfl
@[simp] theorem State.setReg_pins (p : PReg) (v : Word) : (s.setReg p v).pins = s.pins := rfl
@[simp] theorem State.setReg_env (p : PReg) (v : Word) : (s.setReg p v).env = s.env := rfl
@[simp] theorem State.setReg_inp (p : PReg) (v : Word) : (s.setReg p v).inp = s.inp := rfl
@[simp] theorem State.setReg_dbg (p : PReg) (v : Word) : (s.setReg p v).dbg = s.dbg := rfl
@[simp] theorem State.setReg_bus (p : PReg) (v : Word) : (s.setReg p v).bus = s.bus := rfl
@[simp] theorem State.setReg_cpLog (p : PReg) (v : Word) : (s.setReg p v).cpLog = s.cpLog := rfl
@[simp] theorem State.setReg_hazard (p : PReg) (v : Word) : (s.setReg p v).hazard = s.hazard := rfl
@[simp] theorem State.setReg_nonSeq (p : PReg) (v : Word) : (s.setReg p v).nonSeq = s.nonSeq := rfl
@[simp] theorem State.setReg_resetCycles (p : PReg) (v : Word) : (s.setReg p v).resetCycles = s.resetCycles := rfl
@[simp] theorem State.setReg_freeCtr (p : PReg) (v : Word) : (s.setReg p v).freeCtr = s.freeCtr := rfl

/-! ### `State.writeReg` -/

@[simp] theorem State.writeReg_regs (r : Reg) (v : Word) : (s.writeReg r v).regs = s.regs.set (physReg s.cpsr.m r).index v := rfl
@[simp] theorem State.writeReg_pc (r : Reg) (v : Word) : (s.writeReg r v).pc = s.pc := rfl
@[simp] theorem State.writeReg_cpsr (r : Reg) (v : Word) : (s.writeReg r v).cpsr = s.cpsr := rfl
@[simp] theorem State.writeReg_spsrs (r : Reg) (v : Word) : (s.writeReg r v).spsrs = s.spsrs := rfl
@[simp] theorem State.writeReg_mem (r : Reg) (v : Word) : (s.writeReg r v).mem = s.mem := rfl
@[simp] theorem State.writeReg_pipe (r : Reg) (v : Word) : (s.writeReg r v).pipe = s.pipe := rfl
@[simp] theorem State.writeReg_pins (r : Reg) (v : Word) : (s.writeReg r v).pins = s.pins := rfl
@[simp] theorem State.writeReg_env (r : Reg) (v : Word) : (s.writeReg r v).env = s.env := rfl
@[simp] theorem State.writeReg_inp (r : Reg) (v : Word) : (s.writeReg r v).inp = s.inp := rfl
@[simp] theorem State.writeReg_dbg (r : Reg) (v : Word) : (s.writeReg r v).dbg = s.dbg := rfl
@[simp] theorem State.writeReg_bus (r : Reg) (v : Word) : (s.writeReg r v).bus = s.bus := rfl
@[simp] theorem State.writeReg_cpLog (r : Reg) (v : Word) : (s.writeReg r v).cpLog = s.cpLog := rfl
@[simp] theorem State.writeReg_hazard (r : Reg) (v : Word) : (s.writeReg r v).hazard = s.hazard := rfl
@[simp] theorem State.writeReg_nonSeq (r : Reg) (v : Word) : (s.writeReg r v).nonSeq = s.nonSeq := rfl
@[simp] theorem State.writeReg_resetCycles (r : Reg) (v : Word) : (s.writeReg r v).resetCycles = s.resetCycles := rfl
@[simp] theorem State.writeReg_freeCtr (r : Reg) (v : Word) : (s.writeReg r v).freeCtr = s.freeCtr := rfl

/-! ### `State.writeUser` -/

@[simp] theorem State.writeUser_regs (r : Reg) (v : Word) : (s.writeUser r v).regs = s.regs.set (physReg modeUsr r).index v := rfl
@[simp] theorem State.writeUser_pc (r : Reg) (v : Word) : (s.writeUser r v).pc = s.pc := rfl
@[simp] theorem State.writeUser_cpsr (r : Reg) (v : Word) : (s.writeUser r v).cpsr = s.cpsr := rfl
@[simp] theorem State.writeUser_spsrs (r : Reg) (v : Word) : (s.writeUser r v).spsrs = s.spsrs := rfl
@[simp] theorem State.writeUser_mem (r : Reg) (v : Word) : (s.writeUser r v).mem = s.mem := rfl
@[simp] theorem State.writeUser_pipe (r : Reg) (v : Word) : (s.writeUser r v).pipe = s.pipe := rfl
@[simp] theorem State.writeUser_pins (r : Reg) (v : Word) : (s.writeUser r v).pins = s.pins := rfl
@[simp] theorem State.writeUser_env (r : Reg) (v : Word) : (s.writeUser r v).env = s.env := rfl
@[simp] theorem State.writeUser_inp (r : Reg) (v : Word) : (s.writeUser r v).inp = s.inp := rfl
@[simp] theorem State.writeUser_dbg (r : Reg) (v : Word) : (s.writeUser r v).dbg = s.dbg := rfl
@[simp] theorem State.writeUser_bus (r : Reg) (v : Word) : (s.writeUser r v).bus = s.bus := rfl
@[simp] theorem State.writeUser_cpLog (r : Reg) (v : Word) : (s.writeUser r v).cpLog = s.cpLog := rfl
@[simp] theorem State.writeUser_hazard (r : Reg) (v : Word) : (s.writeUser r v).hazard = s.hazard := rfl
@[simp] theorem State.writeUser_nonSeq (r : Reg) (v : Word) : (s.writeUser r v).nonSeq = s.nonSeq := rfl
@[simp] theorem State.writeUser_resetCycles (r : Reg) (v : Word) : (s.writeUser r v).resetCycles = s.resetCycles := rfl
@[simp] theorem State.writeUser_freeCtr (r : Reg) (v : Word) : (s.writeUser r v).freeCtr = s.freeCtr := rfl

/-! ### `State.withCpsr` -/

@[simp] theorem State.withCpsr_regs (p : Psr) : (s.withCpsr p).regs = s.regs := rfl
@[simp] theorem State.withCpsr_pc (p : Psr) : (s.withCpsr p).pc = s.pc := rfl
@[simp] theorem State.withCpsr_cpsr (p : Psr) : (s.withCpsr p).cpsr = p := rfl
@[simp] theorem State.withCpsr_spsrs (p : Psr) : (s.withCpsr p).spsrs = s.spsrs := rfl
@[simp] theorem State.withCpsr_mem (p : Psr) : (s.withCpsr p).mem = s.mem := rfl
@[simp] theorem State.withCpsr_pipe (p : Psr) : (s.withCpsr p).pipe = s.pipe := rfl
@[simp] theorem State.withCpsr_pins (p : Psr) : (s.withCpsr p).pins = s.pins := rfl
@[simp] theorem State.withCpsr_env (p : Psr) : (s.withCpsr p).env = s.env := rfl
@[simp] theorem State.withCpsr_inp (p : Psr) : (s.withCpsr p).inp = s.inp := rfl
@[simp] theorem State.withCpsr_dbg (p : Psr) : (s.withCpsr p).dbg = s.dbg := rfl
@[simp] theorem State.withCpsr_bus (p : Psr) : (s.withCpsr p).bus = s.bus := rfl
@[simp] theorem State.withCpsr_cpLog (p : Psr) : (s.withCpsr p).cpLog = s.cpLog := rfl
@[simp] theorem State.withCpsr_hazard (p : Psr) : (s.withCpsr p).hazard = s.hazard := rfl
@[simp] theorem State.withCpsr_nonSeq (p : Psr) : (s.withCpsr p).nonSeq = s.nonSeq := rfl
@[simp] theorem State.withCpsr_resetCycles (p : Psr) : (s.withCpsr p).resetCycles = s.resetCycles := rfl
@[simp] theorem State.withCpsr_freeCtr (p : Psr) : (s.withCpsr p).freeCtr = s.freeCtr := rfl

/-! ### `State.advance` -/

@[simp] theorem State.advance_regs : (s.advance).regs = s.regs := rfl
@[simp] theorem State.advance_pc : (s.advance).pc = s.pc + s.instrBytes := rfl
@[simp] theorem State.advance_cpsr : (s.advance).cpsr = s.cpsr := rfl
@[simp] theorem State.advance_spsrs : (s.advance).spsrs = s.spsrs := rfl
@[simp] theorem State.advance_mem : (s.advance).mem = s.mem := rfl
@[simp] theorem State.advance_pipe : (s.advance).pipe = s.pipe.tail := rfl
@[simp] theorem State.advance_pins : (s.advance).pins = s.pins := rfl
@[simp] theorem State.advance_env : (s.advance).env = s.env := rfl
@[simp] theorem State.advance_inp : (s.advance).inp = s.inp := rfl
@[simp] theorem State.advance_dbg : (s.advance).dbg = s.dbg := rfl
@[simp] theorem State.advance_bus : (s.advance).bus = s.bus := rfl
@[simp] theorem State.advance_cpLog : (s.advance).cpLog = s.cpLog := rfl
@[simp] theorem State.advance_hazard : (s.advance).hazard = false := rfl
@[simp] theorem State.advance_nonSeq : (s.advance).nonSeq = s.nonSeq := rfl
@[simp] theorem State.advance_resetCycles : (s.advance).resetCycles = s.resetCycles := rfl
@[simp] theorem State.advance_freeCtr : (s.advance).freeCtr = s.freeCtr := rfl

/-! ### `State.branch` -/

@[simp] theorem State.branch_regs (v : Word) : (s.branch v).regs = s.regs := rfl
@[simp] theorem State.branch_pc (v : Word) : (s.branch v).pc = alignPc s.cpsr.t v := rfl
@[simp] theorem State.branch_cpsr (v : Word) : (s.branch v).cpsr = s.cpsr := rfl
@[simp] theorem State.branch_spsrs (v : Word) : (s.branch v).spsrs = s.spsrs := rfl
@[simp] theorem State.branch_mem (v : Word) : (s.branch v).mem = s.mem := rfl
@[simp] theorem State.branch_pipe (v : Word) : (s.branch v).pipe = [] := rfl
@[simp] theorem State.branch_pins (v : Word) : (s.branch v).pins = s.pins := rfl
@[simp] theorem State.branch_env (v : Word) : (s.branch v).env = s.env := rfl
@[simp] theorem State.branch_inp (v : Word) : (s.branch v).inp = s.inp := rfl
@[simp] theorem State.branch_dbg (v : Word) : (s.branch v).dbg = s.dbg := rfl
@[simp] theorem State.branch_bus (v : Word) : (s.branch v).bus = s.bus := rfl
@[simp] theorem State.branch_cpLog (v : Word) : (s.branch v).cpLog = s.cpLog := rfl
@[simp] theorem State.branch_hazard (v : Word) : (s.branch v).hazard = false := rfl
@[simp] theorem State.branch_nonSeq (v : Word) : (s.branch v).nonSeq = s.nonSeq := rfl
@[simp] theorem State.branch_resetCycles (v : Word) : (s.branch v).resetCycles = s.resetCycles := rfl
@[simp] theorem State.branch_freeCtr (v : Word) : (s.branch v).freeCtr = s.freeCtr := rfl

/-! ### `State.logCycle` -/

@[simp] theorem State.logCycle_regs (c : BusCycle) : (s.logCycle c).regs = s.regs := rfl
@[simp] theorem State.logCycle_pc (c : BusCycle) : (s.logCycle c).pc = s.pc := rfl
@[simp] theorem State.logCycle_cpsr (c : BusCycle) : (s.logCycle c).cpsr = s.cpsr := rfl
@[simp] theorem State.logCycle_spsrs (c : BusCycle) : (s.logCycle c).spsrs = s.spsrs := rfl
@[simp] theorem State.logCycle_mem (c : BusCycle) : (s.logCycle c).mem = s.mem := rfl
@[simp] theorem State.logCycle_pipe (c : BusCycle) : (s.logCycle c).pipe = s.pipe := rfl
@[simp] theorem State.logCycle_pins (c : BusCycle) : (s.logCycle c).pins = s.pins := rfl
@[simp] theorem State.logCycle_env (c : BusCycle) : (s.logCycle c).env = s.env := rfl
@[simp] theorem State.logCycle_inp (c : BusCycle) : (s.logCycle c).inp = s.inp := rfl
@[simp] theorem State.logCycle_dbg (c : BusCycle) : (s.logCycle c).dbg = s.dbg := rfl
@[simp] theorem State.logCycle_bus (c : BusCycle) : (s.logCycle c).bus = s.bus ++ [c] := rfl
@[simp] theorem State.logCycle_cpLog (c : BusCycle) : (s.logCycle c).cpLog = s.cpLog := rfl
@[simp] theorem State.logCycle_hazard (c : BusCycle) : (s.logCycle c).hazard = s.hazard := rfl
@[simp] theorem State.logCycle_nonSeq (c : BusCycle) : (s.logCycle c).nonSeq = s.nonSeq := rfl
@[simp] theorem State.logCycle_resetCycles (c : BusCycle) : (s.logCycle c).resetCycles = s.resetCycles := rfl
@[simp] theorem State.logCycle_freeCtr (c : BusCycle) : (s.logCycle c).freeCtr = s.freeCtr := rfl

/-! ### `State.enterException` -/

@[simp] theorem State.enterException_regs (e : Exc) (link : Word) : (s.enterException e link).regs = s.regs.set (lrOf e.mode).index link := rfl
@[simp] theorem State.enterException_pc (e : Exc) (link : Word) : (s.enterException e link).pc = e.vector := rfl
@[simp] theorem State.enterException_cpsr (e : Exc) (link : Word) : (s.enterException e link).cpsr = ⟨s.cpsr.n, s.cpsr.z, s.cpsr.c, s.cpsr.v, true, s.cpsr.f || e == .fiq, false, e.mode⟩ := rfl
@[simp] theorem State.enterException_spsrs (e : Exc) (link : Word) : (s.enterException e link).spsrs = s.spsrs.set e.mode s.cpsr := rfl
@[simp] theorem State.enterException_mem (e : Exc) (link : Word) : (s.enterException e link).mem = s.mem := rfl
@[simp] theorem State.enterException_pipe (e : Exc) (link : Word) : (s.enterException e link).pipe = [] := rfl
@[simp] theorem State.enterException_pins (e : Exc) (link : Word) : (s.enterException e link).pins = s.pins := rfl
@[simp] theorem State.enterException_env (e : Exc) (link : Word) : (s.enterException e link).env = s.env := rfl
@[simp] theorem State.enterException_inp (e : Exc) (link : Word) : (s.enterException e link).inp = s.inp := rfl
@[simp] theorem State.enterException_dbg (e : Exc) (link : Word) : (s.enterException e link).dbg = s.dbg := rfl
@[simp] theorem State.enterException_bus (e : Exc) (link : Word) : (s.enterException e link).bus = s.bus := rfl
@[simp] theorem State.enterException_cpLog (e : Exc) (link : Word) : (s.enterException e link).cpLog = s.cpLog := rfl
@[simp] theorem State.enterException_hazard (e : Exc) (link : Word) : (s.enterException e link).hazard = false := rfl
@[simp] theorem State.enterException_nonSeq (e : Exc) (link : Word) : (s.enterException e link).nonSeq = s.nonSeq := rfl
@[simp] theorem State.enterException_resetCycles (e : Exc) (link : Word) : (s.enterException e link).resetCycles = s.resetCycles := rfl
@[simp] theorem State.enterException_freeCtr (e : Exc) (link : Word) : (s.enterException e link).freeCtr = s.freeCtr := rfl

/-! ### `State.exchange` -/

@[simp] theorem State.exchange_regs (v : Word) : (s.exchange v).regs = s.regs := rfl
@[simp] theorem State.exchange_pc (v : Word) : (s.exchange v).pc = alignPc (v.getLsbD 0) v := rfl
@[simp] theorem State.exchange_cpsr (v : Word) : (s.exchange v).cpsr = ⟨s.cpsr.n, s.cpsr.z, s.cpsr.c, s.cpsr.v, s.cpsr.i, s.cpsr.f, v.getLsbD 0, s.cpsr.m⟩ := rfl
@[simp] theorem State.exchange_spsrs (v : Word) : (s.exchange v).spsrs = s.spsrs := rfl
@[simp] theorem State.exchange_mem (v : Word) : (s.exchange v).mem = s.mem := rfl
@[simp] theorem State.exchange_pipe (v : Word) : (s.exchange v).pipe = [] := rfl
@[simp] theorem State.exchange_pins (v : Word) : (s.exchange v).pins = s.pins := rfl
@[simp] theorem State.exchange_env (v : Word) : (s.exchange v).env = s.env := rfl
@[simp] theorem State.exchange_inp (v : Word) : (s.exchange v).inp = s.inp := rfl
@[simp] theorem State.exchange_dbg (v : Word) : (s.exchange v).dbg = s.dbg := rfl
@[simp] theorem State.exchange_bus (v : Word) : (s.exchange v).bus = s.bus := rfl
@[simp] theorem State.exchange_cpLog (v : Word) : (s.exchange v).cpLog = s.cpLog := rfl
@[simp] theorem State.exchange_hazard (v : Word) : (s.exchange v).hazard = false := rfl
@[simp] theorem State.exchange_nonSeq (v : Word) : (s.exchange v).nonSeq = s.nonSeq := rfl
@[simp] theorem State.exchange_resetCycles (v : Word) : (s.exchange v).resetCycles = s.resetCycles := rfl
@[simp] theorem State.exchange_freeCtr (v : Word) : (s.exchange v).freeCtr = s.freeCtr := rfl

/-! ### `State.advanceNonSeq` -/

@[simp] theorem State.advanceNonSeq_regs : (s.advanceNonSeq).regs = s.regs := rfl
@[simp] theorem State.advanceNonSeq_pc : (s.advanceNonSeq).pc = s.pc + s.instrBytes := rfl
@[simp] theorem State.advanceNonSeq_cpsr : (s.advanceNonSeq).cpsr = s.cpsr := rfl
@[simp] theorem State.advanceNonSeq_spsrs : (s.advanceNonSeq).spsrs = s.spsrs := rfl
@[simp] theorem State.advanceNonSeq_mem : (s.advanceNonSeq).mem = s.mem := rfl
@[simp] theorem State.advanceNonSeq_pipe : (s.advanceNonSeq).pipe = s.pipe.tail := rfl
@[simp] theorem State.advanceNonSeq_pins : (s.advanceNonSeq).pins = s.pins := rfl
@[simp] theorem State.advanceNonSeq_env : (s.advanceNonSeq).env = s.env := rfl
@[simp] theorem State.advanceNonSeq_inp : (s.advanceNonSeq).inp = s.inp := rfl
@[simp] theorem State.advanceNonSeq_dbg : (s.advanceNonSeq).dbg = s.dbg := rfl
@[simp] theorem State.advanceNonSeq_bus : (s.advanceNonSeq).bus = s.bus := rfl
@[simp] theorem State.advanceNonSeq_cpLog : (s.advanceNonSeq).cpLog = s.cpLog := rfl
@[simp] theorem State.advanceNonSeq_hazard : (s.advanceNonSeq).hazard = false := rfl
@[simp] theorem State.advanceNonSeq_nonSeq : (s.advanceNonSeq).nonSeq = true := rfl
@[simp] theorem State.advanceNonSeq_resetCycles : (s.advanceNonSeq).resetCycles = s.resetCycles := rfl
@[simp] theorem State.advanceNonSeq_freeCtr : (s.advanceNonSeq).freeCtr = s.freeCtr := rfl

/-! ### `State.logEvent` -/

@[simp] theorem State.logEvent_regs (e : CpEvent) : (s.logEvent e).regs = s.regs := rfl
@[simp] theorem State.logEvent_pc (e : CpEvent) : (s.logEvent e).pc = s.pc := rfl
@[simp] theorem State.logEvent_cpsr (e : CpEvent) : (s.logEvent e).cpsr = s.cpsr := rfl
@[simp] theorem State.logEvent_spsrs (e : CpEvent) : (s.logEvent e).spsrs = s.spsrs := rfl
@[simp] theorem State.logEvent_mem (e : CpEvent) : (s.logEvent e).mem = s.mem := rfl
@[simp] theorem State.logEvent_pipe (e : CpEvent) : (s.logEvent e).pipe = s.pipe := rfl
@[simp] theorem State.logEvent_pins (e : CpEvent) : (s.logEvent e).pins = s.pins := rfl
@[simp] theorem State.logEvent_env (e : CpEvent) : (s.logEvent e).env = s.env := rfl
@[simp] theorem State.logEvent_inp (e : CpEvent) : (s.logEvent e).inp = s.inp := rfl
@[simp] theorem State.logEvent_dbg (e : CpEvent) : (s.logEvent e).dbg = s.dbg := rfl
@[simp] theorem State.logEvent_bus (e : CpEvent) : (s.logEvent e).bus = s.bus := rfl
@[simp] theorem State.logEvent_cpLog (e : CpEvent) : (s.logEvent e).cpLog = s.cpLog ++ [e] := rfl
@[simp] theorem State.logEvent_hazard (e : CpEvent) : (s.logEvent e).hazard = s.hazard := rfl
@[simp] theorem State.logEvent_nonSeq (e : CpEvent) : (s.logEvent e).nonSeq = s.nonSeq := rfl
@[simp] theorem State.logEvent_resetCycles (e : CpEvent) : (s.logEvent e).resetCycles = s.resetCycles := rfl
@[simp] theorem State.logEvent_freeCtr (e : CpEvent) : (s.logEvent e).freeCtr = s.freeCtr := rfl

/-! ### Registers under the updates that leave the register file alone -/

@[simp] theorem State.withCpsr_getReg (p : Psr) (q : PReg) : (s.withCpsr p).getReg q = s.getReg q := rfl
@[simp] theorem State.advance_getReg (q : PReg) : (s.advance).getReg q = s.getReg q := rfl
@[simp] theorem State.branch_getReg (v : Word) (q : PReg) : (s.branch v).getReg q = s.getReg q := rfl
@[simp] theorem State.logCycle_getReg (c : BusCycle) (q : PReg) : (s.logCycle c).getReg q = s.getReg q := rfl
@[simp] theorem State.exchange_getReg (v : Word) (q : PReg) : (s.exchange v).getReg q = s.getReg q := rfl
@[simp] theorem State.advanceNonSeq_getReg (q : PReg) : (s.advanceNonSeq).getReg q = s.getReg q := rfl
@[simp] theorem State.logEvent_getReg (e : CpEvent) (q : PReg) : (s.logEvent e).getReg q = s.getReg q := rfl

/-! ### Registers written -/

theorem PReg.index_injective : ∀ p q : PReg, p.index = q.index → p = q := by
  intro p q
  cases p <;> cases q <;> first | (intro _; rfl) | (intro h; exact absurd h (by decide))

theorem State.setReg_getReg (p q : PReg) (v : Word) :
    (s.setReg p v).getReg q = if q = p then v else s.getReg q := by
  unfold State.setReg State.getReg
  simp only [Vector.get_eq_getElem]
  rw [Vector.getElem_set]
  by_cases h : q = p
  · subst h; simp
  · have : ¬ (p.index : Nat) = q.index := fun e => h (PReg.index_injective _ _ (Fin.ext e)).symm
    simp [h, this]

@[simp] theorem State.setReg_getReg_self (p : PReg) (v : Word) : (s.setReg p v).getReg p = v := by
  simp [State.setReg_getReg]

theorem State.setReg_getReg_ne (p q : PReg) (v : Word) (h : q ≠ p) : (s.setReg p v).getReg q = s.getReg q := by
  simp [State.setReg_getReg, h]

@[simp] theorem State.writeReg_getReg (r : Reg) (v : Word) (q : PReg) :
    (s.writeReg r v).getReg q = if q = physReg s.cpsr.m r then v else s.getReg q :=
  State.setReg_getReg s _ q v

@[simp] theorem State.writeUser_getReg (r : Reg) (v : Word) (q : PReg) :
    (s.writeUser r v).getReg q = if q = physReg modeUsr r then v else s.getReg q :=
  State.setReg_getReg s _ q v

@[simp] theorem State.enterException_getReg (e : Exc) (link : Word) (q : PReg) :
    (s.enterException e link).getReg q = if q = lrOf e.mode then link else s.getReg q :=
  State.setReg_getReg s _ q link

/-! ### The end of an instruction -/

/-- What `State.finish` does: a branch for R15, else Rd and the next instruction. -/
theorem State.finish_eq (rd : Reg) (v : Word) :
    s.finish rd v = if rd = 15#4 then s.branch v else (s.writeReg rd v).advance := rfl

@[simp] theorem State.finish_cpsr (rd : Reg) (v : Word) : (s.finish rd v).cpsr = s.cpsr := by
  unfold State.finish; split <;> rfl
@[simp] theorem State.finish_spsrs (rd : Reg) (v : Word) : (s.finish rd v).spsrs = s.spsrs := by
  unfold State.finish; split <;> rfl
@[simp] theorem State.finish_mem (rd : Reg) (v : Word) : (s.finish rd v).mem = s.mem := by
  unfold State.finish; split <;> rfl
@[simp] theorem State.finish_pins (rd : Reg) (v : Word) : (s.finish rd v).pins = s.pins := by
  unfold State.finish; split <;> rfl
@[simp] theorem State.finish_env (rd : Reg) (v : Word) : (s.finish rd v).env = s.env := by
  unfold State.finish; split <;> rfl
@[simp] theorem State.finish_inp (rd : Reg) (v : Word) : (s.finish rd v).inp = s.inp := by
  unfold State.finish; split <;> rfl
@[simp] theorem State.finish_dbg (rd : Reg) (v : Word) : (s.finish rd v).dbg = s.dbg := by
  unfold State.finish; split <;> rfl
@[simp] theorem State.finish_bus (rd : Reg) (v : Word) : (s.finish rd v).bus = s.bus := by
  unfold State.finish; split <;> rfl
@[simp] theorem State.finish_cpLog (rd : Reg) (v : Word) : (s.finish rd v).cpLog = s.cpLog := by
  unfold State.finish; split <;> rfl
@[simp] theorem State.finish_hazard (rd : Reg) (v : Word) : (s.finish rd v).hazard = false := by
  unfold State.finish; split <;> rfl
@[simp] theorem State.finish_nonSeq (rd : Reg) (v : Word) : (s.finish rd v).nonSeq = s.nonSeq := by
  unfold State.finish; split <;> rfl
@[simp] theorem State.finish_resetCycles (rd : Reg) (v : Word) : (s.finish rd v).resetCycles = s.resetCycles := by
  unfold State.finish; split <;> rfl
@[simp] theorem State.finish_freeCtr (rd : Reg) (v : Word) : (s.finish rd v).freeCtr = s.freeCtr := by
  unfold State.finish; split <;> rfl

end Sys2Proof.Machine
end

