-- ==== Sys2Proof/Laws/Ops.lean ====
section
/-! SUPPORT. What each shared operation does, once: the condition test, register selection, the adder, the frame of the
endings of an instruction, data accesses. -/

namespace Sys2Proof.Machine

/-! ### Conditions -/

theorem State.conditional_pass (s : State) (c : Cond) (k : State → Result) (h : condPassed c s.cpsr = true) :
    s.conditional c k = k s := by
  simp [State.conditional, h]

theorem State.conditional_fail (s : State) (c : Cond) (k : State → Result) (h : condPassed c s.cpsr = false) :
    s.conditional c k = .next s.advance := by
  simp [State.conditional, h]

/-! ### Registers -/

/-- Two register numbers below 15 select the same register of a mode only if they are equal. -/
theorem physReg_injective (m : BitVec 5) : ∀ r r' : Reg, r ≠ 15#4 → r' ≠ 15#4 → physReg m r = physReg m r' → r = r' := by
  revert m
  decide +kernel

theorem lrOf_eq (m : BitVec 5) : lrOf m = physReg m 14#4 := rfl

theorem spOf_eq (m : BitVec 5) : spOf m = physReg m 13#4 := rfl

theorem loReg_ne (r : LoReg) : loReg r ≠ 15#4 := by revert r; decide

/-- A register other than R15, outside the hazard of a user-bank LDM, reads as its physical register holds. -/
theorem State.operand_eq (s : State) (r : Reg) (hr : r ≠ 15#4) (hz : s.hazard = false) :
    s.operand r = s.getReg (physReg s.cpsr.m r) := by
  simp [State.operand, State.readReg, State.readBank, hr, hz]

/-! ### Saved status registers -/

theorem State.spsr_user (s : State) (h : s.cpsr.m = modeUsr) : s.spsr = none := by
  unfold State.spsr; rw [h]; rfl

theorem State.spsr_system (s : State) (h : s.cpsr.m = modeSys) : s.spsr = none := by
  unfold State.spsr; rw [h]; rfl

/-- The SPSR of the mode entered holds the CPSR of before (60 R440). -/
theorem State.spsr_enterException (s : State) (e : Exc) (link : Word) :
    (s.enterException e link).spsr = some s.cpsr := by
  cases e <;> rfl

/-- Writing the SPSR of the current mode, where there is one, is seen there. -/
theorem State.spsr_set (s t : State) (p q : Psr) (h : s.spsr = some p) (hm : t.cpsr.m = s.cpsr.m)
    (hq : t.spsrs = s.spsrs.set s.cpsr.m q) : t.spsr = some q := by
  unfold State.spsr at h ⊢
  rw [hm, hq]
  unfold Spsrs.set
  revert h
  repeat' split
  all_goals simp_all

/-! ### Frames of the endings -/

theorem State.frame_refl (s : State) (ps : List PReg) : s.frame s ps :=
  ⟨fun _ _ => rfl, fun _ => rfl, rfl, rfl, rfl⟩

/-- A register written, the status register replaced, and the next instruction. -/
theorem State.sets_write (s : State) (rd : Reg) (v : Word) (q : Psr) (ht : q.t = s.cpsr.t) :
    s.sets ((s.writeReg rd v).withCpsr q).advance rd v q := by
  refine ⟨?_, rfl, ?_, ?_, fun _ => rfl, rfl, rfl, rfl⟩
  · simp
  · simp [State.instrBytes, ht]
  · intro p hp
    simp only [List.mem_singleton] at hp
    simp [hp]

theorem State.sets_writeReg (s : State) (rd : Reg) (v : Word) : s.sets (s.writeReg rd v).advance rd v s.cpsr := by
  refine ⟨?_, rfl, ?_, ?_, fun _ => rfl, rfl, rfl, rfl⟩
  · simp
  · rfl
  · intro p hp
    simp only [List.mem_singleton] at hp
    simp [hp]

theorem State.setsFlags_advance (s : State) (q : Psr) (ht : q.t = s.cpsr.t) : s.setsFlags (s.withCpsr q).advance q :=
  ⟨rfl, by simp [State.instrBytes, ht], fun _ _ => rfl, fun _ => rfl, rfl, rfl, rfl⟩

theorem State.jumps_branch (s : State) (v : Word) (q : Psr) : s.jumps ((s.withCpsr q).branch v) v q :=
  ⟨rfl, rfl, rfl, fun _ _ => rfl, fun _ => rfl, rfl, rfl, rfl⟩

theorem State.jumps_branch_self (s : State) (v : Word) : s.jumps (s.branch v) v s.cpsr :=
  ⟨rfl, rfl, rfl, fun _ _ => rfl, fun _ => rfl, rfl, rfl, rfl⟩

/-! ### The adder (00 R14) -/

theorem addWithCarry_value (a b : Word) (c : Bool) : (addWithCarry a b c).value = a + b + BitVec.ofNat 32 c.toNat := by
  apply BitVec.eq_of_toNat_eq
  simp [addWithCarry, BitVec.toNat_add, BitVec.toNat_ofNat, Nat.add_mod]

theorem addWithCarry_carry (a b : Word) (c : Bool) :
    (addWithCarry a b c).carry = true ↔ 4294967296 ≤ a.toNat + b.toNat + c.toNat := by
  simp [addWithCarry]

/-- V of the adder: the exact signed sum is outside the 32-bit range. -/
theorem addWithCarry_overflow (a b : Word) (c : Bool) :
    (addWithCarry a b c).overflow = true ↔ overflows (a.toInt + b.toInt + c.toNat) := by
  have ha := a.isLt
  have hb := b.isLt
  have hc : c.toNat ≤ 1 := by cases c <;> simp
  simp only [addWithCarry, overflows, bne_iff_ne, ne_eq, BitVec.toInt_eq_toNat_cond, BitVec.toNat_ofNat]
  split <;> split <;> split <;> omega

end Sys2Proof.Machine
end

