-- ==== Sys2Proof/Laws/Access.lean ====
section
/-! SUPPORT. Data accesses: what a read and a write give with and without an abort and in isolation, what they leave alone,
and what memory holds after a store. -/

namespace Sys2Proof.Machine

/-! ### Aligned addresses -/

theorem alignWord_toNat (a : Word) : (a &&& 0xFFFFFFFC#32).toNat = 4 * (a.toNat / 4) := by
  have h : a &&& 0xFFFFFFFC#32 = (a >>> 2) <<< 2 := by
    apply BitVec.eq_of_getLsbD_eq
    intro i hi
    rw [BitVec.getLsbD_and, BitVec.getLsbD_shiftLeft, BitVec.getLsbD_ushiftRight]
    have : (0xFFFFFFFC#32 : Word).getLsbD i = decide (2 ≤ i) := by
      revert hi; revert i; decide
    rw [this]
    by_cases h2 : 2 ≤ i
    · have : 2 + (i - 2) = i := by omega
      simp [hi, h2, this]
      intro _; omega
    · simp [h2]; omega
  rw [h, BitVec.toNat_shiftLeft, BitVec.toNat_ushiftRight, Nat.shiftLeft_eq, Nat.shiftRight_eq_div_pow]
  have := a.isLt
  omega

theorem alignHalf_toNat (a : Word) : (a &&& 0xFFFFFFFE#32).toNat = 2 * (a.toNat / 2) := by
  have h : a &&& 0xFFFFFFFE#32 = (a >>> 1) <<< 1 := by
    apply BitVec.eq_of_getLsbD_eq
    intro i hi
    rw [BitVec.getLsbD_and, BitVec.getLsbD_shiftLeft, BitVec.getLsbD_ushiftRight]
    have : (0xFFFFFFFE#32 : Word).getLsbD i = decide (1 ≤ i) := by
      revert hi; revert i; decide
    rw [this]
    by_cases h2 : 1 ≤ i
    · have : 1 + (i - 1) = i := by omega
      simp [hi, h2, this]
      intro _; omega
    · simp [h2]; omega
  rw [h, BitVec.toNat_shiftLeft, BitVec.toNat_ushiftRight, Nat.shiftLeft_eq, Nat.shiftRight_eq_div_pow]
  have := a.isLt
  omega

theorem alignWord_add_toNat (a : Word) (k : Nat) (hk : k < 4) :
    ((a &&& 0xFFFFFFFC#32) + BitVec.ofNat 32 k).toNat = 4 * (a.toNat / 4) + k := by
  rw [BitVec.toNat_add, alignWord_toNat, BitVec.toNat_ofNat]
  have := a.isLt
  omega

theorem alignHalf_add_toNat (a : Word) (k : Nat) (hk : k < 2) :
    ((a &&& 0xFFFFFFFE#32) + BitVec.ofNat 32 k).toNat = 2 * (a.toNat / 2) + k := by
  rw [BitVec.toNat_add, alignHalf_toNat, BitVec.toNat_ofNat]
  have := a.isLt
  omega

/-- An address aligned once is aligned (10 R32). -/
theorem alignPc_idem (t : Bool) (v : Word) : alignPc t (alignPc t v) = alignPc t v := by
  cases t <;> simp only [alignPc, if_true, if_false, Bool.false_eq_true, BitVec.and_assoc, BitVec.and_self]

/-! ### Memory after a store -/

/-- A halfword store leaves every byte outside its halfword alone (20 R73). -/
theorem Memory.get_putHalf_of_ne (big : Bool) (m : List Host.Cell) (a : Word) (v : Half) (x : Nat)
    (h : Memory.wf m = true) (hx : x / 2 ≠ a.toNat / 2) : Memory.get (Memory.putHalf big m a v) x = Memory.get m x := by
  have h0 := alignHalf_toNat a
  have h1 := alignHalf_add_toNat a 1 (by decide)
  cases big <;> simp only [Memory.putHalf, if_true, if_false, Bool.false_eq_true] <;>
    rw [Memory.get_putByte _ _ _ _ (Memory.wf_putByte _ _ _ h), Memory.get_putByte _ _ _ _ h, if_neg (by omega),
      if_neg (by omega)]

/-- A word store leaves every byte outside its word alone (20 R71). -/
theorem Memory.get_putWord_of_ne (big : Bool) (m : List Host.Cell) (a v : Word) (x : Nat)
    (h : Memory.wf m = true) (hx : x / 4 ≠ a.toNat / 4) : Memory.get (Memory.putWord big m a v) x = Memory.get m x := by
  have h0 := alignWord_toNat a
  have h1 := alignWord_add_toNat a 1 (by decide)
  have h2 := alignWord_add_toNat a 2 (by decide)
  have h3 := alignWord_add_toNat a 3 (by decide)
  have w1 := fun b u => Memory.wf_putByte m b u h
  have w2 := fun b u b' u' => Memory.wf_putByte _ b' u' (w1 b u)
  have w3 := fun b u b' u' b'' u'' => Memory.wf_putByte _ b'' u'' (w2 b u b' u')
  cases big <;> simp only [Memory.putWord, if_true, if_false, Bool.false_eq_true] <;>
    rw [Memory.get_putByte _ _ _ _ (w3 _ _ _ _ _ _), Memory.get_putByte _ _ _ _ (w2 _ _ _ _),
      Memory.get_putByte _ _ _ _ (w1 _ _), Memory.get_putByte _ _ _ _ h, if_neg (by omega), if_neg (by omega),
      if_neg (by omega), if_neg (by omega)]

/-- A halfword reads back as stored (20 R68, R73). -/
theorem Memory.halfAt_putHalf (big : Bool) (m : List Host.Cell) (a : Word) (v : Half) (h : Memory.wf m = true) :
    Memory.halfAt big (Memory.putHalf big m a v) a = v := by
  have h0 := alignHalf_toNat a
  have h1 := alignHalf_add_toNat a 1 (by decide)
  have hv : v.extractLsb' 8 8 ++ v.extractLsb' 0 8 = v :=
    (BitVec.extractLsb'_append_extractLsb'_eq_extractLsb' (by decide)).trans BitVec.extractLsb'_eq_self
  cases big <;> simp only [Memory.halfAt, Memory.putHalf, Memory.byteAt, if_true, if_false, Bool.false_eq_true] <;>
    simp only [Memory.get_putByte _ _ _ _ (Memory.wf_putByte _ _ _ h), Memory.get_putByte _ _ _ _ h] <;>
    rw [if_pos trivial, if_neg (by omega), if_pos trivial] <;> exact hv

/-- A word reads back as stored (20 R66, R71). -/
theorem Memory.wordAt_putWord (big : Bool) (m : List Host.Cell) (a v : Word) (h : Memory.wf m = true) :
    Memory.wordAt big (Memory.putWord big m a v) a = v := by
  have h0 := alignWord_toNat a
  have h1 := alignWord_add_toNat a 1 (by decide)
  have h2 := alignWord_add_toNat a 2 (by decide)
  have h3 := alignWord_add_toNat a 3 (by decide)
  have w1 := fun b u => Memory.wf_putByte m b u h
  have w2 := fun b u b' u' => Memory.wf_putByte _ b' u' (w1 b u)
  have w3 := fun b u b' u' b'' u'' => Memory.wf_putByte _ b'' u'' (w2 b u b' u')
  have hv : v.extractLsb' 24 8 ++ (v.extractLsb' 16 8 ++ (v.extractLsb' 8 8 ++ v.extractLsb' 0 8)) = v := by
    rw [BitVec.extractLsb'_append_extractLsb'_eq_extractLsb' (by decide),
      BitVec.extractLsb'_append_extractLsb'_eq_extractLsb' (by decide)]
    exact (BitVec.extractLsb'_append_extractLsb'_eq_extractLsb' (by decide)).trans BitVec.extractLsb'_eq_self
  cases big <;> simp only [Memory.wordAt, Memory.putWord, Memory.byteAt, if_true, if_false, Bool.false_eq_true] <;>
    simp only [Memory.get_putByte _ _ _ _ (w3 _ _ _ _ _ _), Memory.get_putByte _ _ _ _ (w2 _ _ _ _),
      Memory.get_putByte _ _ _ _ (w1 _ _), Memory.get_putByte _ _ _ _ h, h0, h1, h2, h3] <;>
    simp <;> exact hv

/-- What a store of any size that is not aborted leaves outside its own bytes (20 R71 to R73). -/
theorem State.get_stored_of_not_touches (s : State) (z : Size) (a v : Word) (x : Nat) (h : Memory.wf s.mem = true)
    (hx : ¬ z.touches a x) : Memory.get (s.stored z a v) x = Memory.get s.mem x := by
  cases z with
  | byte => exact (Memory.get_putByte s.mem a _ x h).trans (if_neg hx)
  | half => exact Memory.get_putHalf_of_ne _ _ _ _ _ h hx
  | word => exact Memory.get_putWord_of_ne _ _ _ _ _ h hx

/-- What it puts in them. -/
theorem State.stored_holds (s : State) (z : Size) (a v : Word) (h : Memory.wf s.mem = true) :
    z.holds s.pins.bigend (s.stored z a v) a v := by
  cases z with
  | byte =>
    show Memory.byteAt (Memory.putByte s.mem a _) a = _
    rw [Memory.byteAt_putByte _ _ _ _ h, if_pos rfl]
  | half => exact Memory.halfAt_putHalf _ _ _ _ h
  | word => exact Memory.wordAt_putWord _ _ _ _ h

theorem State.wf_stored (s : State) (z : Size) (a v : Word) (h : Memory.wf s.mem = true) :
    Memory.wf (s.stored z a v) = true := by
  cases z with
  | byte => exact Memory.wf_putByte _ _ _ h
  | half => exact Memory.wf_putHalf _ _ _ _ h
  | word => exact Memory.wf_putWord _ _ _ _ h

/-- A word whose address is in another word than the one written reads as before. -/
theorem Memory.wordAt_congr (big : Bool) (m m' : List Host.Cell) (a : Word)
    (h : ∀ x : Nat, x / 4 = a.toNat / 4 → Memory.get m' x = Memory.get m x) :
    Memory.wordAt big m' a = Memory.wordAt big m a := by
  have h0 := alignWord_toNat a
  have h1 := alignWord_add_toNat a 1 (by decide)
  have h2 := alignWord_add_toNat a 2 (by decide)
  have h3 := alignWord_add_toNat a 3 (by decide)
  simp only [Memory.wordAt, Memory.byteAt, h0, h1, h2, h3]
  rw [h _ (by omega), h _ (by omega), h _ (by omega), h _ (by omega)]

/-! ### The memory cycle of a data access -/

section Cycle

variable (s : State) (a : Word) (z : Size) (w p l : Bool) (d : Word)

@[simp] theorem State.dataCycle_addr : (s.dataCycle a z w p l d).addr = a := rfl
@[simp] theorem State.dataCycle_size : (s.dataCycle a z w p l d).size = z := rfl
@[simp] theorem State.dataCycle_write : (s.dataCycle a z w p l d).write = w := rfl
@[simp] theorem State.dataCycle_fetch : (s.dataCycle a z w p l d).fetch = false := rfl
@[simp] theorem State.dataCycle_priv : (s.dataCycle a z w p l d).priv = p := rfl
@[simp] theorem State.dataCycle_lock : (s.dataCycle a z w p l d).lock = l := rfl
@[simp] theorem State.dataCycle_seq : (s.dataCycle a z w p l d).seq = s.continuesBlock w := rfl
@[simp] theorem State.dataCycle_nM : (s.dataCycle a z w p l d).nM = ~~~s.cpsr.m := rfl
@[simp] theorem State.dataCycle_tbit : (s.dataCycle a z w p l d).tbit = s.cpsr.t := rfl
@[simp] theorem State.dataCycle_dbgack : (s.dataCycle a z w p l d).dbgack = s.dbgackPin := rfl
@[simp] theorem State.dataCycle_aborted : (s.dataCycle a z w p l d).aborted = s.aborts a z w false p := rfl
@[simp] theorem State.dataCycle_breakpt :
    (s.dataCycle a z w p l d).breakpt = s.inp.breakpt.getD s.bus.length false := rfl

/-- D[31:0] carries the value, unless a read aborts. -/
theorem State.dataCycle_data (h : s.aborts a z w false p = false ∨ w = true) : (s.dataCycle a z w p l d).data = d := by
  unfold State.dataCycle State.busCycle
  rcases h with h | h <;> simp [h]

end Cycle

/-! ### What a read does -/

/-- A read outside isolation that is not aborted gives memory's value and shows one bus cycle (20 R66 to R70). -/
theorem State.dataRead_ok (s : State) (z : Size) (a : Word) (p l : Bool) (hi : s.isolated = false)
    (ha : s.aborts a z false false p = false) :
    s.dataRead z a p l = (some (s.memValue z a),
      s.logCycle (s.dataCycle a z false p l (Memory.wordAt s.pins.bigend s.mem a))) := by
  simp [State.dataRead, hi, ha]

theorem State.dataRead_abort (s : State) (z : Size) (a : Word) (p l : Bool) (hi : s.isolated = false)
    (ha : s.aborts a z false false p = true) :
    s.dataRead z a p l = (none,
      s.logCycle (s.dataCycle a z false p l (Memory.wordAt s.pins.bigend s.mem a))) := by
  simp [State.dataRead, hi, ha]

/-- All that a read can do: it records a bus cycle, or, in isolation, takes a word that was scanned in. -/
theorem State.dataRead_cases (s : State) (z : Size) (a : Word) (p l : Bool) :
    (∃ (v : Option Word) (c : BusCycle), s.isolated = false ∧ s.dataRead z a p l = (v, s.logCycle c) ∧
      c.fetch = false) ∨
    (∃ v : Word, s.isolated = true ∧
      s.dataRead z a p l = (some v, { s with dbg := { s.dbg with scanIn := s.dbg.scanIn.tail } })) := by
  cases hi : s.isolated
  · left
    cases ha : s.aborts a z false false p
    · exact ⟨_, _, rfl, State.dataRead_ok s z a p l hi ha, rfl⟩
    · exact ⟨_, _, rfl, State.dataRead_abort s z a p l hi ha, rfl⟩
  · right
    exact ⟨_, rfl, by unfold State.dataRead; rw [if_pos hi]⟩

section Read

variable (s : State) (z : Size) (a : Word) (p l : Bool)

@[simp] theorem State.dataRead_regs : (s.dataRead z a p l).2.regs = s.regs := by
  unfold State.dataRead; repeat' split
  all_goals rfl

@[simp] theorem State.dataRead_pc : (s.dataRead z a p l).2.pc = s.pc := by
  unfold State.dataRead; repeat' split
  all_goals rfl

@[simp] theorem State.dataRead_cpsr : (s.dataRead z a p l).2.cpsr = s.cpsr := by
  unfold State.dataRead; repeat' split
  all_goals rfl

@[simp] theorem State.dataRead_spsrs : (s.dataRead z a p l).2.spsrs = s.spsrs := by
  unfold State.dataRead; repeat' split
  all_goals rfl

@[simp] theorem State.dataRead_mem : (s.dataRead z a p l).2.mem = s.mem := by
  unfold State.dataRead; repeat' split
  all_goals rfl

@[simp] theorem State.dataRead_pipe : (s.dataRead z a p l).2.pipe = s.pipe := by
  unfold State.dataRead; repeat' split
  all_goals rfl

@[simp] theorem State.dataRead_pins : (s.dataRead z a p l).2.pins = s.pins := by
  unfold State.dataRead; repeat' split
  all_goals rfl

@[simp] theorem State.dataRead_isolated : (s.dataRead z a p l).2.isolated = s.isolated := by
  unfold State.dataRead; repeat' split
  all_goals rfl

@[simp] theorem State.dataRead_hazard : (s.dataRead z a p l).2.hazard = s.hazard := by
  unfold State.dataRead; repeat' split
  all_goals rfl

@[simp] theorem State.dataRead_getReg (q : PReg) : (s.dataRead z a p l).2.getReg q = s.getReg q :=
  congrArg (fun r : Vector Word 30 => r.get q.index) (State.dataRead_regs s z a p l)

/-- In isolation a read makes no bus cycle (61 R475). -/
theorem State.dataRead_bus_of_isolated (h : s.isolated = true) : (s.dataRead z a p l).2.bus = s.bus := by
  simp [State.dataRead, h]

end Read

/-- The value that a load of each kind brings to its register, where no halfword is read at an odd address. -/
theorem State.extend_memValue (s : State) (k : LoadKind) (a : Word) (h : oddHalf k.size a = false) :
    k.extend a (s.memValue k.size a) = k.loaded s.pins.bigend s.mem a := by
  have ha : (a &&& 3#32).toNat = a.toNat % 4 := by
    rw [show (3#32 : Word) = BitVec.ofNat 32 (2 ^ 2 - 1) from rfl, BitVec.toNat_and, BitVec.toNat_ofNat,
      Nat.mod_eq_of_lt (by decide), Nat.and_two_pow_sub_one_eq_mod]
  cases k with
  | word => simp only [LoadKind.extend, LoadKind.size, State.memValue, LoadKind.loaded, ha]
  | byte => rfl
  | signedByte =>
    simp only [LoadKind.extend, LoadKind.size, State.memValue, LoadKind.loaded]
    congr 1
    apply BitVec.eq_of_toNat_eq
    have h8 := (Memory.byteAt s.mem a).isLt
    simp only [BitVec.extractLsb'_toNat, BitVec.toNat_setWidth, Nat.shiftRight_zero]
    omega
  | half =>
    have h0 : ¬ a.getLsbD 0 = true := by simpa [oddHalf, LoadKind.size] using h
    simp only [LoadKind.extend, LoadKind.size, State.memValue, LoadKind.loaded, if_neg h0]
  | signedHalf =>
    have h0 : ¬ a.getLsbD 0 = true := by simpa [oddHalf, LoadKind.size] using h
    simp only [LoadKind.extend, LoadKind.size, State.memValue, LoadKind.loaded, if_neg h0]
    congr 1
    apply BitVec.eq_of_toNat_eq
    have h16 := (Memory.halfAt s.pins.bigend s.mem a).isLt
    simp only [BitVec.extractLsb'_toNat, BitVec.toNat_setWidth, Nat.shiftRight_zero]
    omega

/-! ### What a write does -/

/-- A write outside isolation that is not aborted reaches memory and shows one bus cycle (20 R71 to R73). -/
theorem State.dataWrite_ok (s : State) (z : Size) (a v : Word) (p l : Bool) (hi : s.isolated = false)
    (ha : s.aborts a z true false p = false) :
    s.dataWrite z a v p l = (false,
      { s.logCycle (s.dataCycle a z true p l (busData z v)) with mem := s.stored z a v }) := by
  simp [State.dataWrite, hi, ha]

theorem State.dataWrite_abort (s : State) (z : Size) (a v : Word) (p l : Bool) (hi : s.isolated = false)
    (ha : s.aborts a z true false p = true) :
    s.dataWrite z a v p l = (true, s.logCycle (s.dataCycle a z true p l (busData z v))) := by
  simp [State.dataWrite, hi, ha]

section Write

variable (s : State) (z : Size) (a v : Word) (p l : Bool)

@[simp] theorem State.dataWrite_regs : (s.dataWrite z a v p l).2.regs = s.regs := by
  unfold State.dataWrite; repeat' split
  all_goals rfl

@[simp] theorem State.dataWrite_pc : (s.dataWrite z a v p l).2.pc = s.pc := by
  unfold State.dataWrite; repeat' split
  all_goals rfl

@[simp] theorem State.dataWrite_cpsr : (s.dataWrite z a v p l).2.cpsr = s.cpsr := by
  unfold State.dataWrite; repeat' split
  all_goals rfl

@[simp] theorem State.dataWrite_spsrs : (s.dataWrite z a v p l).2.spsrs = s.spsrs := by
  unfold State.dataWrite; repeat' split
  all_goals rfl

@[simp] theorem State.dataWrite_pipe : (s.dataWrite z a v p l).2.pipe = s.pipe := by
  unfold State.dataWrite; repeat' split
  all_goals rfl

@[simp] theorem State.dataWrite_pins : (s.dataWrite z a v p l).2.pins = s.pins := by
  unfold State.dataWrite; repeat' split
  all_goals rfl

@[simp] theorem State.dataWrite_isolated : (s.dataWrite z a v p l).2.isolated = s.isolated := by
  unfold State.dataWrite; repeat' split
  all_goals rfl

@[simp] theorem State.dataWrite_hazard : (s.dataWrite z a v p l).2.hazard = s.hazard := by
  unfold State.dataWrite; repeat' split
  all_goals rfl

@[simp] theorem State.dataWrite_getReg (q : PReg) : (s.dataWrite z a v p l).2.getReg q = s.getReg q :=
  congrArg (fun r : Vector Word 30 => r.get q.index) (State.dataWrite_regs s z a v p l)

/-- Every write keeps the one form of memory. -/
theorem State.dataWrite_wf (h : Memory.wf s.mem = true) : Memory.wf (s.dataWrite z a v p l).2.mem = true := by
  unfold State.dataWrite; repeat' split
  · exact h
  · exact h
  · exact State.wf_stored _ _ _ _ h

/-- In isolation a write reaches neither memory nor the bus (61 R475). -/
theorem State.dataWrite_of_isolated (h : s.isolated = true) :
    (s.dataWrite z a v p l).2.mem = s.mem ∧ (s.dataWrite z a v p l).2.bus = s.bus := by
  simp [State.dataWrite, h]

/-- A write changes no byte but those of its access. -/
theorem State.dataWrite_frame (h : Memory.wf s.mem = true) : s.keepsMemBut (s.dataWrite z a v p l).2 z a := by
  intro x hx
  unfold State.dataWrite; repeat' split
  · rfl
  · rfl
  · exact State.get_stored_of_not_touches _ _ _ _ _ h hx

end Write

/-! ### Single transfers -/

section WriteBase

variable (s : State) (wb : Bool) (rn : Reg) (v : Word)

@[simp] theorem State.writeBase_pc : (s.writeBase wb rn v).pc = s.pc := by cases wb <;> rfl
@[simp] theorem State.writeBase_cpsr : (s.writeBase wb rn v).cpsr = s.cpsr := by cases wb <;> rfl
@[simp] theorem State.writeBase_spsrs : (s.writeBase wb rn v).spsrs = s.spsrs := by cases wb <;> rfl
@[simp] theorem State.writeBase_mem : (s.writeBase wb rn v).mem = s.mem := by cases wb <;> rfl
@[simp] theorem State.writeBase_pipe : (s.writeBase wb rn v).pipe = s.pipe := by cases wb <;> rfl
@[simp] theorem State.writeBase_pins : (s.writeBase wb rn v).pins = s.pins := by cases wb <;> rfl
@[simp] theorem State.writeBase_inp : (s.writeBase wb rn v).inp = s.inp := by cases wb <;> rfl
@[simp] theorem State.writeBase_dbg : (s.writeBase wb rn v).dbg = s.dbg := by cases wb <;> rfl
@[simp] theorem State.writeBase_bus : (s.writeBase wb rn v).bus = s.bus := by cases wb <;> rfl
@[simp] theorem State.writeBase_cpLog : (s.writeBase wb rn v).cpLog = s.cpLog := by cases wb <;> rfl
@[simp] theorem State.writeBase_hazard : (s.writeBase wb rn v).hazard = s.hazard := by cases wb <;> rfl
@[simp] theorem State.writeBase_freeCtr : (s.writeBase wb rn v).freeCtr = s.freeCtr := by cases wb <;> rfl
@[simp] theorem State.writeBase_isolated : (s.writeBase wb rn v).isolated = s.isolated := by cases wb <;> rfl
@[simp] theorem State.writeBase_privileged : (s.writeBase wb rn v).privileged = s.privileged := by cases wb <;> rfl
@[simp] theorem State.writeBase_instrBytes : (s.writeBase wb rn v).instrBytes = s.instrBytes := by cases wb <;> rfl

@[simp] theorem State.writeBase_aborts (a : Word) (z : Size) (w f p : Bool) :
    (s.writeBase wb rn v).aborts a z w f p = s.aborts a z w f p := by cases wb <;> rfl

@[simp] theorem State.writeBase_memValue (z : Size) (a : Word) :
    (s.writeBase wb rn v).memValue z a = s.memValue z a := by cases wb <;> rfl

theorem State.writeBase_getReg (q : PReg) :
    (s.writeBase wb rn v).getReg q = if wb = true ∧ q = physReg s.cpsr.m rn then v else s.getReg q := by
  cases wb
  · simp [State.writeBase]
  · by_cases h : q = physReg s.cpsr.m rn <;> simp [State.writeBase, h]

/-- Base write-back changes no register but the base, and none if it is not made. -/
theorem State.writeBase_keepsRegs : s.keepsRegs (s.writeBase wb rn v) (if wb then [physReg s.cpsr.m rn] else []) := by
  intro q hq
  rw [State.writeBase_getReg, if_neg]
  rintro ⟨rfl, rfl⟩
  simp at hq

end WriteBase

/-- A load that is not aborted (44 R238, R239, R254 to R257): one bus cycle, then the value in its register or the PC. -/
theorem State.loadInto_ok (s : State) (k : LoadKind) (p : Bool) (rd : Reg) (a : Word) (hi : s.isolated = false)
    (ha : s.aborts a k.size false false p = false) :
    s.loadInto k p rd a = .next ((s.logCycle (s.dataCycle a k.size false p false
      (Memory.wordAt s.pins.bigend s.mem a))).finish rd (k.extend a (s.memValue k.size a))) := by
  simp only [State.loadInto, State.dataRead_ok s k.size a p false hi ha]

theorem State.loadInto_abort (s : State) (k : LoadKind) (p : Bool) (rd : Reg) (a : Word) (hi : s.isolated = false)
    (ha : s.aborts a k.size false false p = true) :
    s.loadInto k p rd a = .next (s.logCycle (s.dataCycle a k.size false p false
      (Memory.wordAt s.pins.bigend s.mem a))).takeDataAbort := by
  simp only [State.loadInto, State.dataRead_abort s k.size a p false hi ha]

/-- A store that is not aborted (44 R240, R241, R255). -/
theorem State.storeFrom_ok (s : State) (z : Size) (p : Bool) (a v : Word) (hi : s.isolated = false)
    (ho : oddHalf z a = false) (ha : s.aborts a z true false p = false) :
    s.storeFrom z p a v = .next
      { s.logCycle (s.dataCycle a z true p false (busData z v)) with mem := s.stored z a v }.advance := by
  have ho' : ¬ ((decide (z = .half) && a.getLsbD 0) = true) := by
    intro h; simp [oddHalf] at ho h; rw [ho h.1] at h; simp at h
  simp only [State.storeFrom, if_neg ho', State.dataWrite_ok s z a v p false hi ha]

theorem State.storeFrom_abort (s : State) (z : Size) (p : Bool) (a v : Word) (hi : s.isolated = false)
    (ho : oddHalf z a = false) (ha : s.aborts a z true false p = true) :
    s.storeFrom z p a v = .next
      (s.logCycle (s.dataCycle a z true p false (busData z v))).takeDataAbort := by
  have ho' : ¬ ((decide (z = .half) && a.getLsbD 0) = true) := by
    intro h; simp [oddHalf] at ho h; rw [ho h.1] at h; simp at h
  simp only [State.storeFrom, if_neg ho', State.dataWrite_abort s z a v p false hi ha]

theorem State.storeFrom_odd (s : State) (z : Size) (p : Bool) (a v : Word) (ho : oddHalf z a = true) :
    s.storeFrom z p a v = .fault .oddHalfwordStore := by
  have ho' : (decide (z = .half) && a.getLsbD 0) = true := by
    simp [oddHalf] at ho; simp [ho]
  simp only [State.storeFrom, if_pos ho']

end Sys2Proof.Machine
end

