-- ==== Sys2Proof/Laws/Blocks.lean ====
section
/-! SUPPORT. What the loops of the block transfers and of LDC and STC can do: the register list, and which parts of the
state each loop leaves alone. -/

namespace Sys2Proof.Machine

/-! ### Register lists -/

/-- A register is in the list exactly when its bit is set (45 R266). -/
theorem mem_regList (list : BitVec 16) (r : Reg) : r ∈ regList list ↔ list.getLsbD r.toNat = true := by
  constructor
  · intro h
    obtain ⟨k, hk, rfl⟩ := List.mem_map.mp h
    obtain ⟨hk, hb⟩ := List.mem_filter.mp hk
    have hk := List.mem_range.mp hk
    rwa [BitVec.toNat_ofNat, Nat.mod_eq_of_lt (by omega)]
  · intro h
    exact List.mem_map.mpr
      ⟨r.toNat, List.mem_filter.mpr ⟨List.mem_range.mpr r.isLt, h⟩, BitVec.ofNat_toNat 4 r ▸ by simp⟩

/-- The registers come in ascending order (45 R266), so none comes twice. -/
theorem regList_ascending (list : BitVec 16) : (regList list).Pairwise fun a b => a.toNat < b.toNat := by
  refine List.Pairwise.map (R := fun a b : Nat => a < b ∧ b < 16) _ ?_ ?_
  · intro a b h
    rw [BitVec.toNat_ofNat, BitVec.toNat_ofNat, Nat.mod_eq_of_lt (by omega), Nat.mod_eq_of_lt (by omega)]
    exact h.1
  · exact List.Pairwise.filter _ (by decide)

/-- A list is not empty when its field is not zero (45 R266). -/
theorem regList_ne_nil (list : BitVec 16) (h : list ≠ 0#16) : regList list ≠ [] := by
  intro e
  apply h
  apply BitVec.eq_of_getLsbD_eq
  intro k hk
  have := (mem_regList list (BitVec.ofNat 4 k)).not.mp (e ▸ List.not_mem_nil)
  simpa [Nat.mod_eq_of_lt hk] using this

/-! ### Loads -/

/-- The parts of the state that a load loop leaves alone. -/
def State.loadKeeps (s t : State) : Prop :=
  t.pc = s.pc ∧ t.cpsr = s.cpsr ∧ t.spsrs = s.spsrs ∧ t.mem = s.mem ∧ t.pipe = s.pipe ∧ t.pins = s.pins ∧
    t.hazard = s.hazard ∧ t.isolated = s.isolated

theorem State.loadKeeps_trans {s t u : State} (h : s.loadKeeps t) (h' : t.loadKeeps u) : s.loadKeeps u := by
  obtain ⟨a1, a2, a3, a4, a5, a6, a7, a8⟩ := h
  obtain ⟨b1, b2, b3, b4, b5, b6, b7, b8⟩ := h'
  exact ⟨b1.trans a1, b2.trans a2, b3.trans a3, b4.trans a4, b5.trans a5, b6.trans a6, b7.trans a7, b8.trans a8⟩

theorem State.loadKeeps_dataRead (s : State) (z : Size) (a : Word) (p l : Bool) :
    s.loadKeeps (s.dataRead z a p l).2 := by
  simp [State.loadKeeps]

/-- One word of a load multiple changes the registers, the bus and the data scanned in, and nothing else. -/
theorem LoadProgress.load_keeps (q : LoadProgress) (ub : Bool) (a : Word) (r : Reg) :
    q.state.loadKeeps (q.load ub a r).state := by
  have h := State.loadKeeps_dataRead q.state .word a q.state.privileged false
  unfold LoadProgress.load
  split
  · rename_i t e; rw [e] at h; exact h
  · rename_i v t e
    rw [e] at h
    dsimp only at h
    split
    · exact h
    · split
      · exact h
      · cases ub <;> exact State.loadKeeps_trans h ⟨rfl, rfl, rfl, rfl, rfl, rfl, rfl, rfl⟩

/-- A load multiple changes the registers, the bus and the data scanned in, and nothing else (45 R270). -/
theorem LoadProgress.loadAll_keeps (ub : Bool) (rs : List Reg) : ∀ (q : LoadProgress) (a : Word),
    q.state.loadKeeps (q.loadAll ub a rs).state := by
  induction rs with
  | nil => intro q a; exact ⟨rfl, rfl, rfl, rfl, rfl, rfl, rfl, rfl⟩
  | cons r rest ih => intro q a; exact State.loadKeeps_trans (q.load_keeps ub a r) (ih _ _)

/-- A register that one word of a load multiple does not name keeps its value. -/
theorem LoadProgress.load_getReg (q : LoadProgress) (ub : Bool) (a : Word) (r : Reg) (p : PReg)
    (h : p ≠ physReg (if ub then modeUsr else q.state.cpsr.m) r) :
    (q.load ub a r).state.getReg p = q.state.getReg p := by
  have hr := State.dataRead_getReg q.state .word a q.state.privileged false p
  have hc := State.dataRead_cpsr q.state .word a q.state.privileged false
  unfold LoadProgress.load
  split
  · rename_i t e; rw [e] at hr; exact hr
  · rename_i v t e
    rw [e] at hr hc
    dsimp only at hr hc
    split
    · exact hr
    · split
      · exact hr
      · cases ub
        · refine ((State.setReg_getReg _ _ _ _).trans (if_neg ?_)).trans hr
          rw [hc]; exact h
        · exact ((State.setReg_getReg _ _ _ _).trans (if_neg h)).trans hr

/-- A register that a load multiple does not name keeps its value (45 R270, R272). -/
theorem LoadProgress.loadAll_getReg (ub : Bool) (p : PReg) (rs : List Reg) : ∀ (q : LoadProgress) (a : Word),
    (∀ r ∈ rs, p ≠ physReg (if ub then modeUsr else q.state.cpsr.m) r) →
    (q.loadAll ub a rs).state.getReg p = q.state.getReg p := by
  induction rs with
  | nil => intro q a _; rfl
  | cons r rest ih =>
    intro q a h
    have hc := (q.load_keeps ub a r).2.1
    refine (ih _ _ ?_).trans (q.load_getReg ub a r p (h r List.mem_cons_self))
    intro r' hr'
    rw [hc]
    exact h r' (List.mem_cons_of_mem _ hr')

/-- Once a transfer has aborted the rest of the load multiple is aborted (45 R277). -/
theorem LoadProgress.load_aborted (q : LoadProgress) (ub : Bool) (a : Word) (r : Reg) (h : q.aborted = true) :
    (q.load ub a r).aborted = true := by
  unfold LoadProgress.load
  split
  · rfl
  · rw [if_pos h]; exact h

theorem LoadProgress.loadAll_aborted (ub : Bool) (rs : List Reg) : ∀ (q : LoadProgress) (a : Word),
    q.aborted = true → (q.loadAll ub a rs).aborted = true := by
  induction rs with
  | nil => intro q a h; exact h
  | cons r rest ih => intro q a h; exact ih _ _ (q.load_aborted ub a r h)

/-- After an abort no register is written (45 R277). -/
theorem LoadProgress.loadAll_getReg_of_aborted (ub : Bool) (p : PReg) (rs : List Reg) : ∀ (q : LoadProgress) (a : Word),
    q.aborted = true → (q.loadAll ub a rs).state.getReg p = q.state.getReg p := by
  induction rs with
  | nil => intro q a _; rfl
  | cons r rest ih =>
    intro q a h
    refine (ih _ _ (q.load_aborted ub a r h)).trans ?_
    have hr := State.dataRead_getReg q.state .word a q.state.privileged false p
    unfold LoadProgress.load
    split
    · rename_i t e; rw [e] at hr; exact hr
    · rename_i v t e; rw [e] at hr; rw [if_pos h]; exact hr

/-- One word of a load multiple that is not aborted, outside isolation: the word of memory at the address, unrotated
(45 R269), goes to the register. -/
theorem LoadProgress.load_ok (q : LoadProgress) (ub : Bool) (a : Word) (r : Reg) (hi : q.state.isolated = false)
    (ha : q.state.aborts a .word false false q.state.privileged = false) (hq : q.aborted = false) (hr : r ≠ 15#4) :
    (q.load ub a r).aborted = false ∧ (q.load ub a r).newPc = q.newPc ∧
    (q.load ub a r).state.getReg (physReg (if ub then modeUsr else q.state.cpsr.m) r) =
      Memory.wordAt q.state.pins.bigend q.state.mem a := by
  unfold LoadProgress.load
  rw [State.dataRead_ok _ _ _ _ _ hi ha]
  simp only [hq, hr, if_false, Bool.false_eq_true, true_and]
  cases ub <;> exact State.setReg_getReg_self _ _ _

/-- The same for R15, whose value waits for the end of the transfer (45 R270). -/
theorem LoadProgress.load_pc (q : LoadProgress) (ub : Bool) (a : Word) (hi : q.state.isolated = false)
    (ha : q.state.aborts a .word false false q.state.privileged = false) (hq : q.aborted = false) :
    (q.load ub a 15#4).aborted = false ∧
    (q.load ub a 15#4).newPc = Memory.wordAt q.state.pins.bigend q.state.mem a := by
  unfold LoadProgress.load
  rw [State.dataRead_ok _ _ _ _ _ hi ha]
  simp [hq, State.memValue]

/-- The address of the word after the `k`-th (45 R268). -/
theorem addr_succ (a : Word) (k : Nat) : a + 4#32 + BitVec.ofNat 32 (4 * k) = a + BitVec.ofNat 32 (4 * (k + 1)) := by
  rw [BitVec.add_assoc, Nat.mul_add, BitVec.ofNat_add, BitVec.add_comm 4#32]

/-- A load multiple of which no word is aborted is not aborted. -/
theorem LoadProgress.loadAll_not_aborted (ub : Bool) (rs : List Reg) : ∀ (q : LoadProgress) (a : Word),
    q.state.isolated = false → q.aborted = false →
    (∀ k < rs.length, q.state.aborts (a + BitVec.ofNat 32 (4 * k)) .word false false q.state.privileged = false) →
    (q.loadAll ub a rs).aborted = false := by
  induction rs with
  | nil => intro q a _ h _; exact h
  | cons r rest ih =>
    intro q a hi hq ha
    obtain ⟨-, k2, -, -, -, k6, -, k8⟩ := q.load_keeps ub a r
    have h0 : q.state.aborts a .word false false q.state.privileged = false := by simpa using ha 0 (by simp)
    refine ih _ _ (k8.trans hi) ?_ ?_
    · by_cases hr : r = 15#4
      · subst hr; exact (q.load_pc ub a hi h0 hq).1
      · exact (q.load_ok ub a r hi h0 hq hr).1
    · intro k hk
      have := ha (k + 1) (by simpa using hk)
      rw [addr_succ]
      simp only [State.aborts, State.privileged, k2, k6] at this ⊢
      exact this

/-! ### Stores -/

/-- The parts of the state that a store loop leaves alone. -/
def State.storeKeeps (s t : State) : Prop :=
  t.regs = s.regs ∧ t.pc = s.pc ∧ t.cpsr = s.cpsr ∧ t.spsrs = s.spsrs ∧ t.pipe = s.pipe ∧ t.pins = s.pins ∧
    t.hazard = s.hazard ∧ t.isolated = s.isolated

theorem State.storeKeeps_trans {s t u : State} (h : s.storeKeeps t) (h' : t.storeKeeps u) : s.storeKeeps u := by
  obtain ⟨a1, a2, a3, a4, a5, a6, a7, a8⟩ := h
  obtain ⟨b1, b2, b3, b4, b5, b6, b7, b8⟩ := h'
  exact ⟨b1.trans a1, b2.trans a2, b3.trans a3, b4.trans a4, b5.trans a5, b6.trans a6, b7.trans a7, b8.trans a8⟩

theorem State.storeKeeps_dataWrite (s : State) (z : Size) (a v : Word) (p l : Bool) :
    s.storeKeeps (s.dataWrite z a v p l).2 := by
  simp [State.storeKeeps]

/-- A store multiple changes memory, the bus and the data scanned out, and nothing else (45 R271). -/
theorem State.storeAll_keeps (vs : List Word) : ∀ (s : State) (b : Bool) (a : Word),
    s.storeKeeps (s.storeAll b a vs).2 := by
  induction vs with
  | nil => intro s b a; exact ⟨rfl, rfl, rfl, rfl, rfl, rfl, rfl, rfl⟩
  | cons v rest ih =>
    intro s b a
    exact State.storeKeeps_trans (s.storeKeeps_dataWrite .word a v s.privileged false) (ih _ _ _)

/-- A store multiple keeps the one form of memory. -/
theorem State.storeAll_wf (vs : List Word) : ∀ (s : State) (b : Bool) (a : Word), Memory.wf s.mem = true →
    Memory.wf (s.storeAll b a vs).2.mem = true := by
  induction vs with
  | nil => intro s b a h; exact h
  | cons v rest ih => intro s b a h; exact ih _ _ _ (State.dataWrite_wf s .word a v s.privileged false h)

/-- A byte that lies in none of the words of a store multiple keeps its value (45 R268, R271). -/
theorem State.storeAll_frame (x : Nat) (vs : List Word) : ∀ (s : State) (b : Bool) (a : Word),
    Memory.wf s.mem = true →
    (∀ k < vs.length, ¬ Size.word.touches (a + BitVec.ofNat 32 (4 * k)) x) →
    Memory.get (s.storeAll b a vs).2.mem x = Memory.get s.mem x := by
  induction vs with
  | nil => intro s b a _ _; rfl
  | cons v rest ih =>
    intro s b a hw h
    refine (ih _ _ _ (State.dataWrite_wf s .word a v s.privileged false hw) ?_).trans
      (State.dataWrite_frame s .word a v s.privileged false hw x ?_)
    · intro k hk
      rw [addr_succ]
      exact h (k + 1) (by simpa using hk)
    · simpa using h 0 (by simp)

/-- In isolation a store multiple reaches neither memory nor the bus (61 R475). -/
theorem State.storeAll_of_isolated (vs : List Word) : ∀ (s : State) (b : Bool) (a : Word), s.isolated = true →
    (s.storeAll b a vs).2.mem = s.mem ∧ (s.storeAll b a vs).2.bus = s.bus := by
  induction vs with
  | nil => intro s b a _; exact ⟨rfl, rfl⟩
  | cons v rest ih =>
    intro s b a h
    obtain ⟨m, c⟩ := State.dataWrite_of_isolated s .word a v s.privileged false h
    obtain ⟨m', c'⟩ := ih (s.dataWrite .word a v s.privileged false).2
      (b || (s.dataWrite .word a v s.privileged false).1) (a + 4#32)
      ((State.dataWrite_isolated s .word a v s.privileged false).trans h)
    exact ⟨m'.trans m, c'.trans c⟩

/-! ### Coprocessor transfers -/

/-- The words of an LDC change the bus and the data scanned in, and no register or memory (46 R302). -/
theorem State.coprocLoad_keeps (vs : List Word) : ∀ (s : State) (got : List Word) (a : Word),
    s.loadKeeps (s.coprocLoad got a vs).2.2 ∧ (s.coprocLoad got a vs).2.2.regs = s.regs := by
  induction vs with
  | nil => intro s got a; exact ⟨⟨rfl, rfl, rfl, rfl, rfl, rfl, rfl, rfl⟩, rfl⟩
  | cons v rest ih =>
    intro s got a
    have h := State.loadKeeps_dataRead s .word a s.privileged false
    have hr := State.dataRead_regs s .word a s.privileged false
    unfold State.coprocLoad
    split
    · rename_i t e; rw [e] at h hr; exact ⟨h, hr⟩
    · rename_i w t e
      rw [e] at h hr
      exact ⟨State.loadKeeps_trans h (ih t _ _).1, (ih t _ _).2.trans hr⟩

/-- The words of an STC change memory, the bus and the data scanned out, and nothing else (46 R303). -/
theorem State.coprocStore_keeps (vs : List Word) : ∀ (s : State) (a : Word), s.storeKeeps (s.coprocStore a vs).2 := by
  induction vs with
  | nil => intro s a; exact ⟨rfl, rfl, rfl, rfl, rfl, rfl, rfl, rfl⟩
  | cons v rest ih =>
    intro s a
    have h := s.storeKeeps_dataWrite .word a v s.privileged false
    unfold State.coprocStore
    dsimp only
    split
    · exact h
    · exact State.storeKeeps_trans h (ih _ _)

/-- The words of an STC keep the one form of memory. -/
theorem State.coprocStore_wf (vs : List Word) : ∀ (s : State) (a : Word), Memory.wf s.mem = true →
    Memory.wf (s.coprocStore a vs).2.mem = true := by
  induction vs with
  | nil => intro s a h; exact h
  | cons v rest ih =>
    intro s a h
    have h' := State.dataWrite_wf s .word a v s.privileged false h
    unfold State.coprocStore
    dsimp only
    split
    · exact h'
    · exact ih _ _ h'

end Sys2Proof.Machine
end

