-- ==== Sys2Proof/Laws/Exec.lean ====
section
/-! SUPPORT. `exec` on the instructions of one shape, as one shared operation each. -/

namespace Sys2Proof.Machine

/-- The T forms access memory as User mode does. -/
def Index.unpriv : Index → Bool
  | .offset => false
  | .pre => false
  | .post => false
  | .translated => true

/-- The P bit of a single data transfer's indexing. -/
def Index.p : Index → Bool := Index.before

/-- The W bit of a single data transfer's indexing. -/
def Index.w : Index → Bool
  | .offset => false
  | .pre => true
  | .post => false
  | .translated => true

theorem exec_aluInstr (op : AluOp) (c : Cond) (sf : Bool) (rn rd : Reg) (o : Op2) (s : State) :
    exec (aluInstr op c sf rn rd o) s = s.dataOp op c sf rn rd o := by
  cases o <;> cases op <;> rfl

theorem exec_testInstr (op : TestOp) (c : Cond) (rn rd : Reg) (o : Op2) (s : State) :
    exec (testInstr op c rn rd o) s = s.testOp op c rn rd o := by
  cases o <;> cases op <;> rfl

theorem exec_mulLong (op : LongOp) (c : Cond) (sf : Bool) (hi lo rs rm : Reg) (s : State) :
    exec (.mulLong op c sf hi lo rs rm) s = s.conditional c fun s => s.multiplyLong op sf hi lo rs rm := by
  cases op <;> rfl

/-- LDR and LDRB in any form, where the condition passes and the form is one the spec defines. -/
theorem exec_sdt_load (byte : Bool) (c : Cond) (x : Index) (u : Bool) (rn rd : Reg) (o : Offset) (s : State)
    (hc : condPassed c s.cpsr = true) (ho : o.rm? ≠ some 15#4) (hn : x.writesBack = true → rn ≠ 15#4) :
    exec (sdtInstr (if byte then .ldrb else .ldr) c x u rn rd o) s =
      let moved := indexed u (s.operand rn) (s.offset o)
      (s.writeBase x.writesBack rn moved).loadInto (if byte then .byte else .word) (x.privileged s) rd
        (if x.before then moved else s.operand rn) := by
  have h : exec (sdtInstr (if byte then .ldrb else .ldr) c x u rn rd o) s = s.conditional c fun s =>
      s.loadSingle (if byte then .byte else .word) x.unpriv x.p u x.w rn rd o := by
    cases byte <;> cases x <;> cases o <;> rfl
  rw [h, State.conditional_pass _ _ _ hc, State.loadSingle,
    if_neg (by cases x <;> simp_all [Index.p, Index.w, Index.before, Index.writesBack]), if_neg ho]
  cases x <;> simp [Index.p, Index.w, Index.unpriv, Index.before, Index.writesBack, Index.privileged]

/-- STR and STRB in any form, where the condition passes and the form is one the spec defines. -/
theorem exec_sdt_store (byte : Bool) (c : Cond) (x : Index) (u : Bool) (rn rd : Reg) (o : Offset) (s : State)
    (hc : condPassed c s.cpsr = true) (ho : o.rm? ≠ some 15#4) (hn : x.writesBack = true → rn ≠ 15#4) :
    exec (sdtInstr (if byte then .strb else .str) c x u rn rd o) s =
      let moved := indexed u (s.operand rn) (s.offset o)
      (s.writeBase x.writesBack rn moved).storeFrom (if byte then .byte else .word) (x.privileged s)
        (if x.before then moved else s.operand rn) (s.storeValue x.writesBack rn rd moved) := by
  have h : exec (sdtInstr (if byte then .strb else .str) c x u rn rd o) s = s.conditional c fun s =>
      s.storeSingle (if byte then .byte else .word) x.unpriv x.p u x.w rn rd o := by
    cases byte <;> cases x <;> cases o <;> rfl
  rw [h, State.conditional_pass _ _ _ hc, State.storeSingle,
    if_neg (by cases x <;> simp_all [Index.p, Index.w, Index.before, Index.writesBack]), if_neg ho]
  cases x <;> simp [Index.p, Index.w, Index.unpriv, Index.before, Index.writesBack, Index.privileged]

/-- The load kind of a halfword or signed transfer. -/
def hdtKind : HdtOp → LoadKind
  | .strh => .half
  | .ldrh => .half
  | .ldrsb => .signedByte
  | .ldrsh => .signedHalf

theorem halfExcluded_none (p w : Bool) (rn : Reg) (o : HalfOffset) (hp : p = false → w = false)
    (ho : o.rm? ≠ some 15#4) (hn : p = false ∨ w = true → rn ≠ 15#4) : halfExcluded p w rn o = none := by
  unfold halfExcluded
  cases p <;> cases w <;> simp_all

/-- LDRH, LDRSB and LDRSH in any form, where the condition passes and the form is one the spec defines. -/
theorem exec_hdt_load (op : HdtOp) (c : Cond) (p u w : Bool) (rn rd : Reg) (o : HalfOffset) (s : State)
    (hop : op ≠ .strh) (hc : condPassed c s.cpsr = true) (hp : p = false → w = false) (ho : o.rm? ≠ some 15#4)
    (hn : p = false ∨ w = true → rn ≠ 15#4) :
    exec (hdtInstr op c p u w rn rd o) s =
      let moved := indexed u (s.operand rn) (s.halfOffset o)
      (s.writeBase (!p || w) rn moved).loadInto (hdtKind op) s.privileged rd (if p then moved else s.operand rn) := by
  have h : exec (hdtInstr op c p u w rn rd o) s = s.conditional c fun s => s.loadHalf (hdtKind op) p u w rn rd o := by
    cases op <;> cases o <;> first | rfl | exact absurd rfl hop
  rw [h, State.conditional_pass _ _ _ hc, State.loadHalf, halfExcluded_none p w rn o hp ho hn]

/-- STRH in any form, where the condition passes and the form is one the spec defines. -/
theorem exec_hdt_store (c : Cond) (p u w : Bool) (rn rd : Reg) (o : HalfOffset) (s : State)
    (hc : condPassed c s.cpsr = true) (hp : p = false → w = false) (ho : o.rm? ≠ some 15#4)
    (hn : p = false ∨ w = true → rn ≠ 15#4) :
    exec (hdtInstr .strh c p u w rn rd o) s =
      let moved := indexed u (s.operand rn) (s.halfOffset o)
      (s.writeBase (!p || w) rn moved).storeFrom .half s.privileged (if p then moved else s.operand rn)
        (s.storeValue (!p || w) rn rd moved) := by
  have h : exec (hdtInstr .strh c p u w rn rd o) s = s.conditional c fun s => s.storeHalf p u w rn rd o := by
    cases o <;> rfl
  rw [h, State.conditional_pass _ _ _ hc, State.storeHalf, halfExcluded_none p w rn o hp ho hn]

/-- The loads of THUMB Formats 6 to 11. -/
theorem exec_thumbLoad (s : State) (i : Instr) (k : LoadKind) (rd : LoReg) (a : Word)
    (h : i.thumbLoad s = some (k, rd, a)) : exec i s = s.loadInto k s.privileged (loReg rd) a := by
  cases i <;> simp only [Instr.thumbLoad, Option.some.injEq, Prod.mk.injEq, reduceCtorEq] at h <;>
    obtain ⟨rfl, rfl, rfl⟩ := h <;>
    simp only [exec, execTLdrPc, execTLdrReg, execTLdrbReg, execTLdrhReg, execTLdsbReg, execTLdshReg, execTLdrImm,
      execTLdrbImm, execTLdrhImm, execTLdrSp, State.thumbRegAddr, State.thumbImmAddr, State.thumbSpAddr,
      State.thumbPcBase, BitVec.one_mul]

/-- The stores of THUMB Formats 7 to 11. -/
theorem exec_thumbStore (s : State) (i : Instr) (z : Size) (rd : LoReg) (a : Word)
    (h : i.thumbStore s = some (z, rd, a)) :
    exec i s = s.storeFrom z s.privileged a (s.operand (loReg rd)) := by
  cases i <;> simp only [Instr.thumbStore, Option.some.injEq, Prod.mk.injEq, reduceCtorEq] at h <;>
    obtain ⟨rfl, rfl, rfl⟩ := h <;>
    simp only [exec, execTStrReg, execTStrbReg, execTStrhReg, execTStrImm, execTStrbImm, execTStrhImm, execTStrSp,
      State.thumbRegAddr, State.thumbImmAddr, State.thumbSpAddr, BitVec.one_mul]

/-- What a store of Rd puts out: Rd, R15 12 ahead; or the updated base, which 44 R247 allows for its own written-back base. -/
theorem State.storeValue_cases (s : State) (wb : Bool) (rn rd : Reg) (m : Word) :
    s.storeValue wb rn rd m = (if rd = 15#4 then s.pc + 12#32 else s.operand rd) ∨
      (wb = true ∧ rd = rn ∧ s.storeValue wb rn rd m = m) := by
  unfold State.storeValue
  by_cases h : (wb && decide (rd = rn) && Config.storesUpdatedBase s.freeCtr) = true
  · right
    rw [if_pos h]
    simp only [Bool.and_eq_true, decide_eq_true_eq] at h
    exact ⟨h.1.1, h.1.2, rfl⟩
  · left
    rw [if_neg h]
    unfold State.operandFar State.operand State.readReg
    split <;> rfl

end Sys2Proof.Machine
end

