-- ==== Sys2Proof/Laws/PerInstr.lean ====
section
/-! SUPPORT. The family of per-instruction laws: where the encoding of each instruction holds its condition. -/

namespace Sys2Proof.Laws.Encoding

/-- An ARM instruction's word holds its condition in bits 31:28 (30 R104); an instruction without a condition is a THUMB
halfword (30 R121). -/
def Statement (i : Instr) : Prop :=
  match i.cond? with
  | some c => ∃ w : BitVec 32, encode i = .arm w ∧ w.extractLsb' 28 4 = c.bits
  | none => ∃ h : BitVec 16, encode i = .thumb h

/-- The condition on top of the other 28 bits is read back from bits 31:28. -/
theorem condition_field (c : BitVec 4) (rest : BitVec 28) : (c ++ rest : BitVec 32).extractLsb' 28 4 = c :=
  (BitVec.extractLsb'_append_eq_of_le (by decide)).trans BitVec.extractLsb'_eq_self

theorem bx (c : Cond) (rn : Reg) : Statement (.bx c rn) := ⟨_, rfl, condition_field _ _⟩

theorem b (c : Cond) (off : BitVec 24) : Statement (.b c off) := ⟨_, rfl, condition_field _ _⟩

theorem bl (c : Cond) (off : BitVec 24) : Statement (.bl c off) := ⟨_, rfl, condition_field _ _⟩

theorem andImm (c : Cond) (s : Bool) (rn : Reg) (rd : Reg) (rot : BitVec 4) (imm : BitVec 8) :
    Statement (.andImm c s rn rd rot imm) :=
  ⟨_, rfl, condition_field _ _⟩

theorem andShift (c : Cond) (s : Bool) (rn : Reg) (rd : Reg) (amt : BitVec 5) (ty : ShiftType) (rm : Reg) :
    Statement (.andShift c s rn rd amt ty rm) :=
  ⟨_, rfl, condition_field _ _⟩

theorem andReg (c : Cond) (s : Bool) (rn : Reg) (rd : Reg) (rs : Reg) (ty : ShiftType) (rm : Reg) :
    Statement (.andReg c s rn rd rs ty rm) :=
  ⟨_, rfl, condition_field _ _⟩

theorem eorImm (c : Cond) (s : Bool) (rn : Reg) (rd : Reg) (rot : BitVec 4) (imm : BitVec 8) :
    Statement (.eorImm c s rn rd rot imm) :=
  ⟨_, rfl, condition_field _ _⟩

theorem eorShift (c : Cond) (s : Bool) (rn : Reg) (rd : Reg) (amt : BitVec 5) (ty : ShiftType) (rm : Reg) :
    Statement (.eorShift c s rn rd amt ty rm) :=
  ⟨_, rfl, condition_field _ _⟩

theorem eorReg (c : Cond) (s : Bool) (rn : Reg) (rd : Reg) (rs : Reg) (ty : ShiftType) (rm : Reg) :
    Statement (.eorReg c s rn rd rs ty rm) :=
  ⟨_, rfl, condition_field _ _⟩

theorem subImm (c : Cond) (s : Bool) (rn : Reg) (rd : Reg) (rot : BitVec 4) (imm : BitVec 8) :
    Statement (.subImm c s rn rd rot imm) :=
  ⟨_, rfl, condition_field _ _⟩

theorem subShift (c : Cond) (s : Bool) (rn : Reg) (rd : Reg) (amt : BitVec 5) (ty : ShiftType) (rm : Reg) :
    Statement (.subShift c s rn rd amt ty rm) :=
  ⟨_, rfl, condition_field _ _⟩

theorem subReg (c : Cond) (s : Bool) (rn : Reg) (rd : Reg) (rs : Reg) (ty : ShiftType) (rm : Reg) :
    Statement (.subReg c s rn rd rs ty rm) :=
  ⟨_, rfl, condition_field _ _⟩

theorem rsbImm (c : Cond) (s : Bool) (rn : Reg) (rd : Reg) (rot : BitVec 4) (imm : BitVec 8) :
    Statement (.rsbImm c s rn rd rot imm) :=
  ⟨_, rfl, condition_field _ _⟩

theorem rsbShift (c : Cond) (s : Bool) (rn : Reg) (rd : Reg) (amt : BitVec 5) (ty : ShiftType) (rm : Reg) :
    Statement (.rsbShift c s rn rd amt ty rm) :=
  ⟨_, rfl, condition_field _ _⟩

theorem rsbReg (c : Cond) (s : Bool) (rn : Reg) (rd : Reg) (rs : Reg) (ty : ShiftType) (rm : Reg) :
    Statement (.rsbReg c s rn rd rs ty rm) :=
  ⟨_, rfl, condition_field _ _⟩

theorem addImm (c : Cond) (s : Bool) (rn : Reg) (rd : Reg) (rot : BitVec 4) (imm : BitVec 8) :
    Statement (.addImm c s rn rd rot imm) :=
  ⟨_, rfl, condition_field _ _⟩

theorem addShift (c : Cond) (s : Bool) (rn : Reg) (rd : Reg) (amt : BitVec 5) (ty : ShiftType) (rm : Reg) :
    Statement (.addShift c s rn rd amt ty rm) :=
  ⟨_, rfl, condition_field _ _⟩

theorem addReg (c : Cond) (s : Bool) (rn : Reg) (rd : Reg) (rs : Reg) (ty : ShiftType) (rm : Reg) :
    Statement (.addReg c s rn rd rs ty rm) :=
  ⟨_, rfl, condition_field _ _⟩

theorem adcImm (c : Cond) (s : Bool) (rn : Reg) (rd : Reg) (rot : BitVec 4) (imm : BitVec 8) :
    Statement (.adcImm c s rn rd rot imm) :=
  ⟨_, rfl, condition_field _ _⟩

theorem adcShift (c : Cond) (s : Bool) (rn : Reg) (rd : Reg) (amt : BitVec 5) (ty : ShiftType) (rm : Reg) :
    Statement (.adcShift c s rn rd amt ty rm) :=
  ⟨_, rfl, condition_field _ _⟩

theorem adcReg (c : Cond) (s : Bool) (rn : Reg) (rd : Reg) (rs : Reg) (ty : ShiftType) (rm : Reg) :
    Statement (.adcReg c s rn rd rs ty rm) :=
  ⟨_, rfl, condition_field _ _⟩

theorem sbcImm (c : Cond) (s : Bool) (rn : Reg) (rd : Reg) (rot : BitVec 4) (imm : BitVec 8) :
    Statement (.sbcImm c s rn rd rot imm) :=
  ⟨_, rfl, condition_field _ _⟩

theorem sbcShift (c : Cond) (s : Bool) (rn : Reg) (rd : Reg) (amt : BitVec 5) (ty : ShiftType) (rm : Reg) :
    Statement (.sbcShift c s rn rd amt ty rm) :=
  ⟨_, rfl, condition_field _ _⟩

theorem sbcReg (c : Cond) (s : Bool) (rn : Reg) (rd : Reg) (rs : Reg) (ty : ShiftType) (rm : Reg) :
    Statement (.sbcReg c s rn rd rs ty rm) :=
  ⟨_, rfl, condition_field _ _⟩

theorem rscImm (c : Cond) (s : Bool) (rn : Reg) (rd : Reg) (rot : BitVec 4) (imm : BitVec 8) :
    Statement (.rscImm c s rn rd rot imm) :=
  ⟨_, rfl, condition_field _ _⟩

theorem rscShift (c : Cond) (s : Bool) (rn : Reg) (rd : Reg) (amt : BitVec 5) (ty : ShiftType) (rm : Reg) :
    Statement (.rscShift c s rn rd amt ty rm) :=
  ⟨_, rfl, condition_field _ _⟩

theorem rscReg (c : Cond) (s : Bool) (rn : Reg) (rd : Reg) (rs : Reg) (ty : ShiftType) (rm : Reg) :
    Statement (.rscReg c s rn rd rs ty rm) :=
  ⟨_, rfl, condition_field _ _⟩

theorem tstImm (c : Cond) (rn : Reg) (rd : Reg) (rot : BitVec 4) (imm : BitVec 8) :
    Statement (.tstImm c rn rd rot imm) :=
  ⟨_, rfl, condition_field _ _⟩

theorem tstShift (c : Cond) (rn : Reg) (rd : Reg) (amt : BitVec 5) (ty : ShiftType) (rm : Reg) :
    Statement (.tstShift c rn rd amt ty rm) :=
  ⟨_, rfl, condition_field _ _⟩

theorem tstReg (c : Cond) (rn : Reg) (rd : Reg) (rs : Reg) (ty : ShiftType) (rm : Reg) :
    Statement (.tstReg c rn rd rs ty rm) :=
  ⟨_, rfl, condition_field _ _⟩

theorem teqImm (c : Cond) (rn : Reg) (rd : Reg) (rot : BitVec 4) (imm : BitVec 8) :
    Statement (.teqImm c rn rd rot imm) :=
  ⟨_, rfl, condition_field _ _⟩

theorem teqShift (c : Cond) (rn : Reg) (rd : Reg) (amt : BitVec 5) (ty : ShiftType) (rm : Reg) :
    Statement (.teqShift c rn rd amt ty rm) :=
  ⟨_, rfl, condition_field _ _⟩

theorem teqReg (c : Cond) (rn : Reg) (rd : Reg) (rs : Reg) (ty : ShiftType) (rm : Reg) :
    Statement (.teqReg c rn rd rs ty rm) :=
  ⟨_, rfl, condition_field _ _⟩

theorem cmpImm (c : Cond) (rn : Reg) (rd : Reg) (rot : BitVec 4) (imm : BitVec 8) :
    Statement (.cmpImm c rn rd rot imm) :=
  ⟨_, rfl, condition_field _ _⟩

theorem cmpShift (c : Cond) (rn : Reg) (rd : Reg) (amt : BitVec 5) (ty : ShiftType) (rm : Reg) :
    Statement (.cmpShift c rn rd amt ty rm) :=
  ⟨_, rfl, condition_field _ _⟩

theorem cmpReg (c : Cond) (rn : Reg) (rd : Reg) (rs : Reg) (ty : ShiftType) (rm : Reg) :
    Statement (.cmpReg c rn rd rs ty rm) :=
  ⟨_, rfl, condition_field _ _⟩

theorem cmnImm (c : Cond) (rn : Reg) (rd : Reg) (rot : BitVec 4) (imm : BitVec 8) :
    Statement (.cmnImm c rn rd rot imm) :=
  ⟨_, rfl, condition_field _ _⟩

theorem cmnShift (c : Cond) (rn : Reg) (rd : Reg) (amt : BitVec 5) (ty : ShiftType) (rm : Reg) :
    Statement (.cmnShift c rn rd amt ty rm) :=
  ⟨_, rfl, condition_field _ _⟩

theorem cmnReg (c : Cond) (rn : Reg) (rd : Reg) (rs : Reg) (ty : ShiftType) (rm : Reg) :
    Statement (.cmnReg c rn rd rs ty rm) :=
  ⟨_, rfl, condition_field _ _⟩

theorem orrImm (c : Cond) (s : Bool) (rn : Reg) (rd : Reg) (rot : BitVec 4) (imm : BitVec 8) :
    Statement (.orrImm c s rn rd rot imm) :=
  ⟨_, rfl, condition_field _ _⟩

theorem orrShift (c : Cond) (s : Bool) (rn : Reg) (rd : Reg) (amt : BitVec 5) (ty : ShiftType) (rm : Reg) :
    Statement (.orrShift c s rn rd amt ty rm) :=
  ⟨_, rfl, condition_field _ _⟩

theorem orrReg (c : Cond) (s : Bool) (rn : Reg) (rd : Reg) (rs : Reg) (ty : ShiftType) (rm : Reg) :
    Statement (.orrReg c s rn rd rs ty rm) :=
  ⟨_, rfl, condition_field _ _⟩

theorem movImm (c : Cond) (s : Bool) (rn : Reg) (rd : Reg) (rot : BitVec 4) (imm : BitVec 8) :
    Statement (.movImm c s rn rd rot imm) :=
  ⟨_, rfl, condition_field _ _⟩

theorem movShift (c : Cond) (s : Bool) (rn : Reg) (rd : Reg) (amt : BitVec 5) (ty : ShiftType) (rm : Reg) :
    Statement (.movShift c s rn rd amt ty rm) :=
  ⟨_, rfl, condition_field _ _⟩

theorem movReg (c : Cond) (s : Bool) (rn : Reg) (rd : Reg) (rs : Reg) (ty : ShiftType) (rm : Reg) :
    Statement (.movReg c s rn rd rs ty rm) :=
  ⟨_, rfl, condition_field _ _⟩

theorem bicImm (c : Cond) (s : Bool) (rn : Reg) (rd : Reg) (rot : BitVec 4) (imm : BitVec 8) :
    Statement (.bicImm c s rn rd rot imm) :=
  ⟨_, rfl, condition_field _ _⟩

theorem bicShift (c : Cond) (s : Bool) (rn : Reg) (rd : Reg) (amt : BitVec 5) (ty : ShiftType) (rm : Reg) :
    Statement (.bicShift c s rn rd amt ty rm) :=
  ⟨_, rfl, condition_field _ _⟩

theorem bicReg (c : Cond) (s : Bool) (rn : Reg) (rd : Reg) (rs : Reg) (ty : ShiftType) (rm : Reg) :
    Statement (.bicReg c s rn rd rs ty rm) :=
  ⟨_, rfl, condition_field _ _⟩

theorem mvnImm (c : Cond) (s : Bool) (rn : Reg) (rd : Reg) (rot : BitVec 4) (imm : BitVec 8) :
    Statement (.mvnImm c s rn rd rot imm) :=
  ⟨_, rfl, condition_field _ _⟩

theorem mvnShift (c : Cond) (s : Bool) (rn : Reg) (rd : Reg) (amt : BitVec 5) (ty : ShiftType) (rm : Reg) :
    Statement (.mvnShift c s rn rd amt ty rm) :=
  ⟨_, rfl, condition_field _ _⟩

theorem mvnReg (c : Cond) (s : Bool) (rn : Reg) (rd : Reg) (rs : Reg) (ty : ShiftType) (rm : Reg) :
    Statement (.mvnReg c s rn rd rs ty rm) :=
  ⟨_, rfl, condition_field _ _⟩

theorem mrs (c : Cond) (spsr : Bool) (rd : Reg) : Statement (.mrs c spsr rd) := ⟨_, rfl, condition_field _ _⟩

theorem msrReg (c : Cond) (spsr : Bool) (rm : Reg) : Statement (.msrReg c spsr rm) := ⟨_, rfl, condition_field _ _⟩

theorem msrFlagsReg (c : Cond) (spsr : Bool) (rm : Reg) : Statement (.msrFlagsReg c spsr rm) := ⟨_, rfl, condition_field _ _⟩

theorem msrFlagsImm (c : Cond) (spsr : Bool) (rot : BitVec 4) (imm : BitVec 8) :
    Statement (.msrFlagsImm c spsr rot imm) :=
  ⟨_, rfl, condition_field _ _⟩

theorem mul (c : Cond) (s : Bool) (rd : Reg) (rn : Reg) (rs : Reg) (rm : Reg) :
    Statement (.mul c s rd rn rs rm) :=
  ⟨_, rfl, condition_field _ _⟩

theorem mla (c : Cond) (s : Bool) (rd : Reg) (rn : Reg) (rs : Reg) (rm : Reg) :
    Statement (.mla c s rd rn rs rm) :=
  ⟨_, rfl, condition_field _ _⟩

theorem umull (c : Cond) (s : Bool) (hi : Reg) (lo : Reg) (rs : Reg) (rm : Reg) :
    Statement (.umull c s hi lo rs rm) :=
  ⟨_, rfl, condition_field _ _⟩

theorem umlal (c : Cond) (s : Bool) (hi : Reg) (lo : Reg) (rs : Reg) (rm : Reg) :
    Statement (.umlal c s hi lo rs rm) :=
  ⟨_, rfl, condition_field _ _⟩

theorem smull (c : Cond) (s : Bool) (hi : Reg) (lo : Reg) (rs : Reg) (rm : Reg) :
    Statement (.smull c s hi lo rs rm) :=
  ⟨_, rfl, condition_field _ _⟩

theorem smlal (c : Cond) (s : Bool) (hi : Reg) (lo : Reg) (rs : Reg) (rm : Reg) :
    Statement (.smlal c s hi lo rs rm) :=
  ⟨_, rfl, condition_field _ _⟩

theorem strImmPre (c : Cond) (u : Bool) (w : Bool) (rn : Reg) (rd : Reg) (off : BitVec 12) :
    Statement (.strImmPre c u w rn rd off) :=
  ⟨_, rfl, condition_field _ _⟩

theorem strImmPost (c : Cond) (u : Bool) (rn : Reg) (rd : Reg) (off : BitVec 12) :
    Statement (.strImmPost c u rn rd off) :=
  ⟨_, rfl, condition_field _ _⟩

theorem strtImm (c : Cond) (u : Bool) (rn : Reg) (rd : Reg) (off : BitVec 12) :
    Statement (.strtImm c u rn rd off) :=
  ⟨_, rfl, condition_field _ _⟩

theorem strRegPre (c : Cond) (u : Bool) (w : Bool) (rn : Reg) (rd : Reg) (amt : BitVec 5) (ty : ShiftType) (rm : Reg) :
    Statement (.strRegPre c u w rn rd amt ty rm) :=
  ⟨_, rfl, condition_field _ _⟩

theorem strRegPost (c : Cond) (u : Bool) (rn : Reg) (rd : Reg) (amt : BitVec 5) (ty : ShiftType) (rm : Reg) :
    Statement (.strRegPost c u rn rd amt ty rm) :=
  ⟨_, rfl, condition_field _ _⟩

theorem strtReg (c : Cond) (u : Bool) (rn : Reg) (rd : Reg) (amt : BitVec 5) (ty : ShiftType) (rm : Reg) :
    Statement (.strtReg c u rn rd amt ty rm) :=
  ⟨_, rfl, condition_field _ _⟩

theorem ldrImmPre (c : Cond) (u : Bool) (w : Bool) (rn : Reg) (rd : Reg) (off : BitVec 12) :
    Statement (.ldrImmPre c u w rn rd off) :=
  ⟨_, rfl, condition_field _ _⟩

theorem ldrImmPost (c : Cond) (u : Bool) (rn : Reg) (rd : Reg) (off : BitVec 12) :
    Statement (.ldrImmPost c u rn rd off) :=
  ⟨_, rfl, condition_field _ _⟩

theorem ldrtImm (c : Cond) (u : Bool) (rn : Reg) (rd : Reg) (off : BitVec 12) :
    Statement (.ldrtImm c u rn rd off) :=
  ⟨_, rfl, condition_field _ _⟩

theorem ldrRegPre (c : Cond) (u : Bool) (w : Bool) (rn : Reg) (rd : Reg) (amt : BitVec 5) (ty : ShiftType) (rm : Reg) :
    Statement (.ldrRegPre c u w rn rd amt ty rm) :=
  ⟨_, rfl, condition_field _ _⟩

theorem ldrRegPost (c : Cond) (u : Bool) (rn : Reg) (rd : Reg) (amt : BitVec 5) (ty : ShiftType) (rm : Reg) :
    Statement (.ldrRegPost c u rn rd amt ty rm) :=
  ⟨_, rfl, condition_field _ _⟩

theorem ldrtReg (c : Cond) (u : Bool) (rn : Reg) (rd : Reg) (amt : BitVec 5) (ty : ShiftType) (rm : Reg) :
    Statement (.ldrtReg c u rn rd amt ty rm) :=
  ⟨_, rfl, condition_field _ _⟩

theorem strbImmPre (c : Cond) (u : Bool) (w : Bool) (rn : Reg) (rd : Reg) (off : BitVec 12) :
    Statement (.strbImmPre c u w rn rd off) :=
  ⟨_, rfl, condition_field _ _⟩

theorem strbImmPost (c : Cond) (u : Bool) (rn : Reg) (rd : Reg) (off : BitVec 12) :
    Statement (.strbImmPost c u rn rd off) :=
  ⟨_, rfl, condition_field _ _⟩

theorem strbtImm (c : Cond) (u : Bool) (rn : Reg) (rd : Reg) (off : BitVec 12) :
    Statement (.strbtImm c u rn rd off) :=
  ⟨_, rfl, condition_field _ _⟩

theorem strbRegPre (c : Cond) (u : Bool) (w : Bool) (rn : Reg) (rd : Reg) (amt : BitVec 5) (ty : ShiftType) (rm : Reg) :
    Statement (.strbRegPre c u w rn rd amt ty rm) :=
  ⟨_, rfl, condition_field _ _⟩

theorem strbRegPost (c : Cond) (u : Bool) (rn : Reg) (rd : Reg) (amt : BitVec 5) (ty : ShiftType) (rm : Reg) :
    Statement (.strbRegPost c u rn rd amt ty rm) :=
  ⟨_, rfl, condition_field _ _⟩

theorem strbtReg (c : Cond) (u : Bool) (rn : Reg) (rd : Reg) (amt : BitVec 5) (ty : ShiftType) (rm : Reg) :
    Statement (.strbtReg c u rn rd amt ty rm) :=
  ⟨_, rfl, condition_field _ _⟩

theorem ldrbImmPre (c : Cond) (u : Bool) (w : Bool) (rn : Reg) (rd : Reg) (off : BitVec 12) :
    Statement (.ldrbImmPre c u w rn rd off) :=
  ⟨_, rfl, condition_field _ _⟩

theorem ldrbImmPost (c : Cond) (u : Bool) (rn : Reg) (rd : Reg) (off : BitVec 12) :
    Statement (.ldrbImmPost c u rn rd off) :=
  ⟨_, rfl, condition_field _ _⟩

theorem ldrbtImm (c : Cond) (u : Bool) (rn : Reg) (rd : Reg) (off : BitVec 12) :
    Statement (.ldrbtImm c u rn rd off) :=
  ⟨_, rfl, condition_field _ _⟩

theorem ldrbRegPre (c : Cond) (u : Bool) (w : Bool) (rn : Reg) (rd : Reg) (amt : BitVec 5) (ty : ShiftType) (rm : Reg) :
    Statement (.ldrbRegPre c u w rn rd amt ty rm) :=
  ⟨_, rfl, condition_field _ _⟩

theorem ldrbRegPost (c : Cond) (u : Bool) (rn : Reg) (rd : Reg) (amt : BitVec 5) (ty : ShiftType) (rm : Reg) :
    Statement (.ldrbRegPost c u rn rd amt ty rm) :=
  ⟨_, rfl, condition_field _ _⟩

theorem ldrbtReg (c : Cond) (u : Bool) (rn : Reg) (rd : Reg) (amt : BitVec 5) (ty : ShiftType) (rm : Reg) :
    Statement (.ldrbtReg c u rn rd amt ty rm) :=
  ⟨_, rfl, condition_field _ _⟩

theorem strhReg (c : Cond) (p : Bool) (u : Bool) (w : Bool) (rn : Reg) (rd : Reg) (rm : Reg) :
    Statement (.strhReg c p u w rn rd rm) :=
  ⟨_, rfl, condition_field _ _⟩

theorem strhImm (c : Cond) (p : Bool) (u : Bool) (w : Bool) (rn : Reg) (rd : Reg) (off : BitVec 8) :
    Statement (.strhImm c p u w rn rd off) :=
  ⟨_, rfl, condition_field _ _⟩

theorem ldrhReg (c : Cond) (p : Bool) (u : Bool) (w : Bool) (rn : Reg) (rd : Reg) (rm : Reg) :
    Statement (.ldrhReg c p u w rn rd rm) :=
  ⟨_, rfl, condition_field _ _⟩

theorem ldrhImm (c : Cond) (p : Bool) (u : Bool) (w : Bool) (rn : Reg) (rd : Reg) (off : BitVec 8) :
    Statement (.ldrhImm c p u w rn rd off) :=
  ⟨_, rfl, condition_field _ _⟩

theorem ldrsbReg (c : Cond) (p : Bool) (u : Bool) (w : Bool) (rn : Reg) (rd : Reg) (rm : Reg) :
    Statement (.ldrsbReg c p u w rn rd rm) :=
  ⟨_, rfl, condition_field _ _⟩

theorem ldrsbImm (c : Cond) (p : Bool) (u : Bool) (w : Bool) (rn : Reg) (rd : Reg) (off : BitVec 8) :
    Statement (.ldrsbImm c p u w rn rd off) :=
  ⟨_, rfl, condition_field _ _⟩

theorem ldrshReg (c : Cond) (p : Bool) (u : Bool) (w : Bool) (rn : Reg) (rd : Reg) (rm : Reg) :
    Statement (.ldrshReg c p u w rn rd rm) :=
  ⟨_, rfl, condition_field _ _⟩

theorem ldrshImm (c : Cond) (p : Bool) (u : Bool) (w : Bool) (rn : Reg) (rd : Reg) (off : BitVec 8) :
    Statement (.ldrshImm c p u w rn rd off) :=
  ⟨_, rfl, condition_field _ _⟩

theorem stm (c : Cond) (p : Bool) (u : Bool) (s : Bool) (w : Bool) (rn : Reg) (list : BitVec 16) :
    Statement (.stm c p u s w rn list) :=
  ⟨_, rfl, condition_field _ _⟩

theorem ldm (c : Cond) (p : Bool) (u : Bool) (s : Bool) (w : Bool) (rn : Reg) (list : BitVec 16) :
    Statement (.ldm c p u s w rn list) :=
  ⟨_, rfl, condition_field _ _⟩

theorem swp (c : Cond) (rn : Reg) (rd : Reg) (rm : Reg) : Statement (.swp c rn rd rm) := ⟨_, rfl, condition_field _ _⟩

theorem swpb (c : Cond) (rn : Reg) (rd : Reg) (rm : Reg) : Statement (.swpb c rn rd rm) := ⟨_, rfl, condition_field _ _⟩

theorem swi (c : Cond) (comment : BitVec 24) : Statement (.swi c comment) := ⟨_, rfl, condition_field _ _⟩

theorem cdp (c : Cond) (opc : BitVec 4) (crn : BitVec 4) (crd : BitVec 4) (cp : BitVec 4) (info : BitVec 3) (crm : BitVec 4) :
    Statement (.cdp c opc crn crd cp info crm) :=
  ⟨_, rfl, condition_field _ _⟩

theorem stc (c : Cond) (p : Bool) (u : Bool) (n : Bool) (w : Bool) (rn : Reg) (crd : BitVec 4) (cp : BitVec 4) (off : BitVec 8) :
    Statement (.stc c p u n w rn crd cp off) :=
  ⟨_, rfl, condition_field _ _⟩

theorem ldc (c : Cond) (p : Bool) (u : Bool) (n : Bool) (w : Bool) (rn : Reg) (crd : BitVec 4) (cp : BitVec 4) (off : BitVec 8) :
    Statement (.ldc c p u n w rn crd cp off) :=
  ⟨_, rfl, condition_field _ _⟩

theorem mcr (c : Cond) (opc : BitVec 3) (crn : BitVec 4) (rd : Reg) (cp : BitVec 4) (info : BitVec 3) (crm : BitVec 4) :
    Statement (.mcr c opc crn rd cp info crm) :=
  ⟨_, rfl, condition_field _ _⟩

theorem mrc (c : Cond) (opc : BitVec 3) (crn : BitVec 4) (rd : Reg) (cp : BitVec 4) (info : BitVec 3) (crm : BitVec 4) :
    Statement (.mrc c opc crn rd cp info crm) :=
  ⟨_, rfl, condition_field _ _⟩

theorem undef (c : Cond) (x : BitVec 20) (y : BitVec 4) : Statement (.undef c x y) := ⟨_, rfl, condition_field _ _⟩

theorem tLslImm (off : BitVec 5) (rs : LoReg) (rd : LoReg) : Statement (.tLslImm off rs rd) := ⟨_, rfl⟩

theorem tLsrImm (off : BitVec 5) (rs : LoReg) (rd : LoReg) : Statement (.tLsrImm off rs rd) := ⟨_, rfl⟩

theorem tAsrImm (off : BitVec 5) (rs : LoReg) (rd : LoReg) : Statement (.tAsrImm off rs rd) := ⟨_, rfl⟩

theorem tAddReg (rn : LoReg) (rs : LoReg) (rd : LoReg) : Statement (.tAddReg rn rs rd) := ⟨_, rfl⟩

theorem tSubReg (rn : LoReg) (rs : LoReg) (rd : LoReg) : Statement (.tSubReg rn rs rd) := ⟨_, rfl⟩

theorem tAddImm3 (off : BitVec 3) (rs : LoReg) (rd : LoReg) : Statement (.tAddImm3 off rs rd) := ⟨_, rfl⟩

theorem tSubImm3 (off : BitVec 3) (rs : LoReg) (rd : LoReg) : Statement (.tSubImm3 off rs rd) := ⟨_, rfl⟩

theorem tMovImm (rd : LoReg) (off : BitVec 8) : Statement (.tMovImm rd off) := ⟨_, rfl⟩

theorem tCmpImm (rd : LoReg) (off : BitVec 8) : Statement (.tCmpImm rd off) := ⟨_, rfl⟩

theorem tAddImm8 (rd : LoReg) (off : BitVec 8) : Statement (.tAddImm8 rd off) := ⟨_, rfl⟩

theorem tSubImm8 (rd : LoReg) (off : BitVec 8) : Statement (.tSubImm8 rd off) := ⟨_, rfl⟩

theorem tAnd (rs : LoReg) (rd : LoReg) : Statement (.tAnd rs rd) := ⟨_, rfl⟩

theorem tEor (rs : LoReg) (rd : LoReg) : Statement (.tEor rs rd) := ⟨_, rfl⟩

theorem tLslReg (rs : LoReg) (rd : LoReg) : Statement (.tLslReg rs rd) := ⟨_, rfl⟩

theorem tLsrReg (rs : LoReg) (rd : LoReg) : Statement (.tLsrReg rs rd) := ⟨_, rfl⟩

theorem tAsrReg (rs : LoReg) (rd : LoReg) : Statement (.tAsrReg rs rd) := ⟨_, rfl⟩

theorem tAdc (rs : LoReg) (rd : LoReg) : Statement (.tAdc rs rd) := ⟨_, rfl⟩

theorem tSbc (rs : LoReg) (rd : LoReg) : Statement (.tSbc rs rd) := ⟨_, rfl⟩

theorem tRorReg (rs : LoReg) (rd : LoReg) : Statement (.tRorReg rs rd) := ⟨_, rfl⟩

theorem tTst (rs : LoReg) (rd : LoReg) : Statement (.tTst rs rd) := ⟨_, rfl⟩

theorem tNeg (rs : LoReg) (rd : LoReg) : Statement (.tNeg rs rd) := ⟨_, rfl⟩

theorem tCmp (rs : LoReg) (rd : LoReg) : Statement (.tCmp rs rd) := ⟨_, rfl⟩

theorem tCmn (rs : LoReg) (rd : LoReg) : Statement (.tCmn rs rd) := ⟨_, rfl⟩

theorem tOrr (rs : LoReg) (rd : LoReg) : Statement (.tOrr rs rd) := ⟨_, rfl⟩

theorem tMul (rs : LoReg) (rd : LoReg) : Statement (.tMul rs rd) := ⟨_, rfl⟩

theorem tBic (rs : LoReg) (rd : LoReg) : Statement (.tBic rs rd) := ⟨_, rfl⟩

theorem tMvn (rs : LoReg) (rd : LoReg) : Statement (.tMvn rs rd) := ⟨_, rfl⟩

theorem tAddLoHi (rs : LoReg) (rd : LoReg) : Statement (.tAddLoHi rs rd) := ⟨_, rfl⟩

theorem tAddHiLo (rs : LoReg) (rd : LoReg) : Statement (.tAddHiLo rs rd) := ⟨_, rfl⟩

theorem tAddHiHi (rs : LoReg) (rd : LoReg) : Statement (.tAddHiHi rs rd) := ⟨_, rfl⟩

theorem tAddLoLo (rs : LoReg) (rd : LoReg) : Statement (.tAddLoLo rs rd) := ⟨_, rfl⟩

theorem tCmpLoHi (rs : LoReg) (rd : LoReg) : Statement (.tCmpLoHi rs rd) := ⟨_, rfl⟩

theorem tCmpHiLo (rs : LoReg) (rd : LoReg) : Statement (.tCmpHiLo rs rd) := ⟨_, rfl⟩

theorem tCmpHiHi (rs : LoReg) (rd : LoReg) : Statement (.tCmpHiHi rs rd) := ⟨_, rfl⟩

theorem tCmpLoLo (rs : LoReg) (rd : LoReg) : Statement (.tCmpLoLo rs rd) := ⟨_, rfl⟩

theorem tMovLoHi (rs : LoReg) (rd : LoReg) : Statement (.tMovLoHi rs rd) := ⟨_, rfl⟩

theorem tMovHiLo (rs : LoReg) (rd : LoReg) : Statement (.tMovHiLo rs rd) := ⟨_, rfl⟩

theorem tMovHiHi (rs : LoReg) (rd : LoReg) : Statement (.tMovHiHi rs rd) := ⟨_, rfl⟩

theorem tMovLoLo (rs : LoReg) (rd : LoReg) : Statement (.tMovLoLo rs rd) := ⟨_, rfl⟩

theorem tBxLo (rs : LoReg) (x : BitVec 3) : Statement (.tBxLo rs x) := ⟨_, rfl⟩

theorem tBxHi (rs : LoReg) (x : BitVec 3) : Statement (.tBxHi rs x) := ⟨_, rfl⟩

theorem tBxH1 (h2 : Bool) (rs : LoReg) (x : BitVec 3) : Statement (.tBxH1 h2 rs x) := ⟨_, rfl⟩

theorem tLdrPc (rd : LoReg) (imm : BitVec 8) : Statement (.tLdrPc rd imm) := ⟨_, rfl⟩

theorem tStrReg (ro : LoReg) (rb : LoReg) (rd : LoReg) : Statement (.tStrReg ro rb rd) := ⟨_, rfl⟩

theorem tStrbReg (ro : LoReg) (rb : LoReg) (rd : LoReg) : Statement (.tStrbReg ro rb rd) := ⟨_, rfl⟩

theorem tLdrReg (ro : LoReg) (rb : LoReg) (rd : LoReg) : Statement (.tLdrReg ro rb rd) := ⟨_, rfl⟩

theorem tLdrbReg (ro : LoReg) (rb : LoReg) (rd : LoReg) : Statement (.tLdrbReg ro rb rd) := ⟨_, rfl⟩

theorem tStrhReg (ro : LoReg) (rb : LoReg) (rd : LoReg) : Statement (.tStrhReg ro rb rd) := ⟨_, rfl⟩

theorem tLdrhReg (ro : LoReg) (rb : LoReg) (rd : LoReg) : Statement (.tLdrhReg ro rb rd) := ⟨_, rfl⟩

theorem tLdsbReg (ro : LoReg) (rb : LoReg) (rd : LoReg) : Statement (.tLdsbReg ro rb rd) := ⟨_, rfl⟩

theorem tLdshReg (ro : LoReg) (rb : LoReg) (rd : LoReg) : Statement (.tLdshReg ro rb rd) := ⟨_, rfl⟩

theorem tStrImm (off : BitVec 5) (rb : LoReg) (rd : LoReg) : Statement (.tStrImm off rb rd) := ⟨_, rfl⟩

theorem tLdrImm (off : BitVec 5) (rb : LoReg) (rd : LoReg) : Statement (.tLdrImm off rb rd) := ⟨_, rfl⟩

theorem tStrbImm (off : BitVec 5) (rb : LoReg) (rd : LoReg) : Statement (.tStrbImm off rb rd) := ⟨_, rfl⟩

theorem tLdrbImm (off : BitVec 5) (rb : LoReg) (rd : LoReg) : Statement (.tLdrbImm off rb rd) := ⟨_, rfl⟩

theorem tStrhImm (off : BitVec 5) (rb : LoReg) (rd : LoReg) : Statement (.tStrhImm off rb rd) := ⟨_, rfl⟩

theorem tLdrhImm (off : BitVec 5) (rb : LoReg) (rd : LoReg) : Statement (.tLdrhImm off rb rd) := ⟨_, rfl⟩

theorem tStrSp (rd : LoReg) (imm : BitVec 8) : Statement (.tStrSp rd imm) := ⟨_, rfl⟩

theorem tLdrSp (rd : LoReg) (imm : BitVec 8) : Statement (.tLdrSp rd imm) := ⟨_, rfl⟩

theorem tAddPc (rd : LoReg) (imm : BitVec 8) : Statement (.tAddPc rd imm) := ⟨_, rfl⟩

theorem tAddSp (rd : LoReg) (imm : BitVec 8) : Statement (.tAddSp rd imm) := ⟨_, rfl⟩

theorem tAddSpPos (imm : BitVec 7) : Statement (.tAddSpPos imm) := ⟨_, rfl⟩

theorem tAddSpNeg (imm : BitVec 7) : Statement (.tAddSpNeg imm) := ⟨_, rfl⟩

theorem tPush (list : BitVec 8) : Statement (.tPush list) := ⟨_, rfl⟩

theorem tPushLr (list : BitVec 8) : Statement (.tPushLr list) := ⟨_, rfl⟩

theorem tPop (list : BitVec 8) : Statement (.tPop list) := ⟨_, rfl⟩

theorem tPopPc (list : BitVec 8) : Statement (.tPopPc list) := ⟨_, rfl⟩

theorem tStmia (rb : LoReg) (list : BitVec 8) : Statement (.tStmia rb list) := ⟨_, rfl⟩

theorem tLdmia (rb : LoReg) (list : BitVec 8) : Statement (.tLdmia rb list) := ⟨_, rfl⟩

theorem tBeq (off : BitVec 8) : Statement (.tBeq off) := ⟨_, rfl⟩

theorem tBne (off : BitVec 8) : Statement (.tBne off) := ⟨_, rfl⟩

theorem tBcs (off : BitVec 8) : Statement (.tBcs off) := ⟨_, rfl⟩

theorem tBcc (off : BitVec 8) : Statement (.tBcc off) := ⟨_, rfl⟩

theorem tBmi (off : BitVec 8) : Statement (.tBmi off) := ⟨_, rfl⟩

theorem tBpl (off : BitVec 8) : Statement (.tBpl off) := ⟨_, rfl⟩

theorem tBvs (off : BitVec 8) : Statement (.tBvs off) := ⟨_, rfl⟩

theorem tBvc (off : BitVec 8) : Statement (.tBvc off) := ⟨_, rfl⟩

theorem tBhi (off : BitVec 8) : Statement (.tBhi off) := ⟨_, rfl⟩

theorem tBls (off : BitVec 8) : Statement (.tBls off) := ⟨_, rfl⟩

theorem tBge (off : BitVec 8) : Statement (.tBge off) := ⟨_, rfl⟩

theorem tBlt (off : BitVec 8) : Statement (.tBlt off) := ⟨_, rfl⟩

theorem tBgt (off : BitVec 8) : Statement (.tBgt off) := ⟨_, rfl⟩

theorem tBle (off : BitVec 8) : Statement (.tBle off) := ⟨_, rfl⟩

theorem tUndefCond (x : BitVec 8) : Statement (.tUndefCond x) := ⟨_, rfl⟩

theorem tSwi (comment : BitVec 8) : Statement (.tSwi comment) := ⟨_, rfl⟩

theorem tB (off : BitVec 11) : Statement (.tB off) := ⟨_, rfl⟩

theorem tBlHigh (off : BitVec 11) : Statement (.tBlHigh off) := ⟨_, rfl⟩

theorem tBlLow (off : BitVec 11) : Statement (.tBlLow off) := ⟨_, rfl⟩

theorem tUndefB1 (x : BitVec 8) : Statement (.tUndefB1 x) := ⟨_, rfl⟩

theorem tUndefB2 (x : BitVec 9) : Statement (.tUndefB2 x) := ⟨_, rfl⟩

theorem tUndefB6 (x : BitVec 9) : Statement (.tUndefB6 x) := ⟨_, rfl⟩

theorem tUndefB8 (x : BitVec 10) : Statement (.tUndefB8 x) := ⟨_, rfl⟩

theorem tUndefBe (x : BitVec 9) : Statement (.tUndefBe x) := ⟨_, rfl⟩

theorem tUndefE8 (x : BitVec 11) : Statement (.tUndefE8 x) := ⟨_, rfl⟩

end Sys2Proof.Laws.Encoding
end

