-- ==== Sys2Proof/Laws/Step.lean ====
section
/-! SUPPORT. The stages of a step: the prefetch queue, the debug hardware when it is off, and the step as the stage that it
comes to. -/

namespace Sys2Proof.Machine

/-! ### ICEBreaker and the TAP -/

/-- With DBGEN LOW a memory cycle matches no watchpoint and changes nothing (61 R491). -/
theorem State.iceCycle_off (s : State) (c : BusCycle) (h : s.pins.dbgen = false) : s.iceCycle c = (false, s) := by
  simp [State.iceCycle, h]

/-- A memory cycle changes at most the CHAINOUT latch and the RANGEOUT pins (61 R483, R484). -/
theorem State.iceCycle_state (s : State) (c : BusCycle) :
    ∃ x y z : Bool, (s.iceCycle c).2 = { s with dbg := s.dbg.seen x y z } := by
  cases h : s.pins.dbgen
  · exact ⟨s.dbg.chainOut, s.dbg.rangeOut0, s.dbg.rangeOut1, by rw [State.iceCycle_off s c h]; rfl⟩
  · simp only [State.iceCycle, h, Bool.not_true, Bool.false_eq_true, if_false]
    exact ⟨_, _, _, rfl⟩

/-- With both units disabled (bit 8 of the control value clear) and the pin LOW no memory cycle asserts BREAKPT (61 R482). -/
theorem State.iceCycle_disabled (s : State) (c : BusCycle) (h0 : s.dbg.wp0.ctrlValue.getLsbD 8 = false)
    (h1 : s.dbg.wp1.ctrlValue.getLsbD 8 = false) (hc : c.breakpt = false) : (s.iceCycle c).1 = false := by
  unfold State.iceCycle
  split
  · rfl
  · simp only [h0, h1, hc, Bool.and_false, Bool.or_false]

/-- Several memory cycles change at most the CHAINOUT latch and the RANGEOUT pins. -/
theorem State.iceCycles_state (cs : List BusCycle) : ∀ s : State,
    ∃ x y z : Bool, (s.iceCycles cs).2 = { s with dbg := s.dbg.seen x y z } := by
  induction cs with
  | nil => intro s; exact ⟨s.dbg.chainOut, s.dbg.rangeOut0, s.dbg.rangeOut1, rfl⟩
  | cons c rest ih =>
    intro s
    obtain ⟨x, y, z, h⟩ := s.iceCycle_state c
    obtain ⟨x', y', z', h'⟩ := ih (s.iceCycle c).2
    exact ⟨x', y', z', by show ((s.iceCycle c).2.iceCycles rest).2 = _; rw [h', h]; rfl⟩

/-- With DBGEN LOW the memory cycles of a step change nothing and stop nothing (61 R491). -/
theorem State.iceCycles_off (cs : List BusCycle) : ∀ s : State, s.pins.dbgen = false → s.iceCycles cs = (false, s) := by
  induction cs with
  | nil => intro s _; rfl
  | cons c rest ih =>
    intro s h
    show ((s.iceCycle c).1 || ((s.iceCycle c).2.iceCycles rest).1, ((s.iceCycle c).2.iceCycles rest).2) = _
    rw [State.iceCycle_off s c h, ih s h]; rfl

/-- With DBGEN LOW the debugger has no effect (61 R470, R491). -/
theorem State.tapStep_off (s : State) (h : s.pins.dbgen = false) : s.tapStep = some s := by
  simp [State.tapStep, h]

/-- With nTRST HIGH and no command the TAP does nothing. -/
theorem State.tapStep_idle (s : State) (h : s.inp.nTRST = true) (hd : s.inp.dbg = .idle) : s.tapStep = some s := by
  unfold State.tapStep
  split
  · rfl
  · simp [h, hd, State.debugCommand, State.tapCommand]

/-- While nTRST is LOW no command acts (61 R503). -/
theorem State.tapStep_reset (s : State) (hg : s.pins.dbgen = true) (h : s.inp.nTRST = false) :
    s.tapStep = some { s with dbg := s.dbg.afterTrst s.freeCtr } := by
  simp [State.tapStep, hg, h, State.debugCommand, State.tapCommand]

/-- A command touches nothing but the debug state. -/
theorem State.tapCommand_state (s t : State) (d : DebugCmd) (h : s.tapCommand d = some t) :
    ∃ g : Debug, t = { s with dbg := g } := by
  unfold State.tapCommand at h
  repeat' split at h
  all_goals first
    | (cases h; exact ⟨_, rfl⟩)
    | (exact absurd h (by simp))

/-- The TAP touches nothing but the debug state. -/
theorem State.tapStep_state (s t : State) (h : s.tapStep = some t) : ∃ g : Debug, t = { s with dbg := g } := by
  unfold State.tapStep at h
  split at h
  · cases h; exact ⟨_, rfl⟩
  · obtain ⟨g, hg⟩ := State.tapCommand_state _ t _ h
    refine ⟨g, hg.trans ?_⟩
    split <;> rfl

/-! ### The prefetch queue -/

theorem or_mask_absorb {n : Nat} (a b m : BitVec n) : (a ||| (b &&& m)) ||| m = a ||| m := by
  ext i h
  simp only [BitVec.getElem_or, BitVec.getElem_and]
  cases a[i] <;> cases b[i] <;> cases m[i] <;> rfl

/-- The memory cycle of a fetch shows the instruction that it is asked for (20 R76, R77, R84). -/
theorem State.fetches_fetchCycle (s : State) (bus : List BusCycle) (mem : List Host.Cell) (k : Nat) (seq : Bool) :
    s.fetches ({ s with bus := bus, mem := mem }.fetchCycle (s.pc + BitVec.ofNat 32 k * s.instrBytes) seq) k :=
  ⟨rfl, rfl, rfl, rfl, rfl, rfl, rfl, rfl, or_mask_absorb _ _ _⟩

/-- One fetch: its memory cycle, and its slot at the end of the queue with the two marks (10 R45, R46). -/
theorem State.prefetch_state (s : State) : ∃ x y z b : Bool, s.prefetch =
    { s with
      bus := s.bus ++ [s.nextFetch]
      pipe := s.pipe ++ [⟨s.opcodeAt s.fetchAddr, s.nextFetch.aborted, b⟩]
      nonSeq := false
      dbg := s.dbg.seen x y z } := by
  obtain ⟨x, y, z, h⟩ := (s.logCycle s.nextFetch).iceCycle_state s.nextFetch
  refine ⟨x, y, z, ((s.logCycle s.nextFetch).iceCycle s.nextFetch).1, ?_⟩
  unfold State.prefetch
  dsimp only
  rw [h]
  rfl

/-- What filling the queue does, once: some fetches, each with its memory cycle, and nothing else but the parts of the debug
state that ICEBreaker's view of them writes. -/
theorem State.fillPipe_state (s : State) : ∀ n : Nat,
    ∃ (x y z e : Bool) (q : List Slot) (cs : List BusCycle), s.fillPipe n =
      { s with bus := s.bus ++ cs, pipe := s.pipe ++ q, nonSeq := e, dbg := s.dbg.seen x y z } ∧
      (∀ c ∈ cs, c.fetch = true) ∧ cs.length = q.length
  | 0 => ⟨s.dbg.chainOut, s.dbg.rangeOut0, s.dbg.rangeOut1, s.nonSeq, [], [], by
      simp [State.fillPipe, Debug.seen]⟩
  | n + 1 => by
    unfold State.fillPipe
    split
    · obtain ⟨x, y, z, e, q, cs, h, hf, hl⟩ := State.fillPipe_state s n
      obtain ⟨x', y', z', b, h'⟩ := (s.fillPipe n).prefetch_state
      refine ⟨x', y', z', false,
        q ++ [⟨(s.fillPipe n).opcodeAt (s.fillPipe n).fetchAddr,
          (s.fillPipe n).nextFetch.aborted, b⟩],
        cs ++ [(s.fillPipe n).nextFetch], ?_, ?_, ?_⟩
      · rw [h', h]
        simp only [List.append_assoc, Debug.seen]
      · intro c hc
        rcases List.mem_append.mp hc with hc | hc
        · exact hf c hc
        · rw [List.mem_singleton.mp hc]; rfl
      · simp [hl]
    · exact ⟨s.dbg.chainOut, s.dbg.rangeOut0, s.dbg.rangeOut1, s.nonSeq, [], [], by simp [Debug.seen]⟩

section Fill

variable (s : State) (n : Nat)

/-- The fields that filling the queue leaves alone. -/
theorem State.fillPipe_keeps : (s.fillPipe n).regs = s.regs ∧ (s.fillPipe n).pc = s.pc ∧ (s.fillPipe n).cpsr = s.cpsr ∧
    (s.fillPipe n).spsrs = s.spsrs ∧ (s.fillPipe n).mem = s.mem ∧ (s.fillPipe n).pins = s.pins ∧
    (s.fillPipe n).inp = s.inp ∧ (s.fillPipe n).env = s.env ∧ (s.fillPipe n).cpLog = s.cpLog ∧
    (s.fillPipe n).hazard = s.hazard ∧ (s.fillPipe n).resetCycles = s.resetCycles ∧
    (s.fillPipe n).freeCtr = s.freeCtr := by
  obtain ⟨x, y, z, e, q, cs, h, -, -⟩ := s.fillPipe_state n
  rw [h]
  exact ⟨rfl, rfl, rfl, rfl, rfl, rfl, rfl, rfl, rfl, rfl, rfl, rfl⟩

@[simp] theorem State.fillPipe_regs : (s.fillPipe n).regs = s.regs := (s.fillPipe_keeps n).1
@[simp] theorem State.fillPipe_pc : (s.fillPipe n).pc = s.pc := (s.fillPipe_keeps n).2.1
@[simp] theorem State.fillPipe_cpsr : (s.fillPipe n).cpsr = s.cpsr := (s.fillPipe_keeps n).2.2.1
@[simp] theorem State.fillPipe_spsrs : (s.fillPipe n).spsrs = s.spsrs := (s.fillPipe_keeps n).2.2.2.1
@[simp] theorem State.fillPipe_mem : (s.fillPipe n).mem = s.mem := (s.fillPipe_keeps n).2.2.2.2.1
@[simp] theorem State.fillPipe_pins : (s.fillPipe n).pins = s.pins := (s.fillPipe_keeps n).2.2.2.2.2.1
@[simp] theorem State.fillPipe_inp : (s.fillPipe n).inp = s.inp := (s.fillPipe_keeps n).2.2.2.2.2.2.1
@[simp] theorem State.fillPipe_env : (s.fillPipe n).env = s.env := (s.fillPipe_keeps n).2.2.2.2.2.2.2.1
@[simp] theorem State.fillPipe_cpLog : (s.fillPipe n).cpLog = s.cpLog := (s.fillPipe_keeps n).2.2.2.2.2.2.2.2.1
@[simp] theorem State.fillPipe_hazard : (s.fillPipe n).hazard = s.hazard := (s.fillPipe_keeps n).2.2.2.2.2.2.2.2.2.1
@[simp] theorem State.fillPipe_resetCycles : (s.fillPipe n).resetCycles = s.resetCycles :=
  (s.fillPipe_keeps n).2.2.2.2.2.2.2.2.2.2.1
@[simp] theorem State.fillPipe_freeCtr : (s.fillPipe n).freeCtr = s.freeCtr :=
  (s.fillPipe_keeps n).2.2.2.2.2.2.2.2.2.2.2

@[simp] theorem State.fillPipe_instrBytes : (s.fillPipe n).instrBytes = s.instrBytes := by simp [State.instrBytes]

@[simp] theorem State.fillPipe_privileged : (s.fillPipe n).privileged = s.privileged := by simp [State.privileged]

@[simp] theorem State.fillPipe_aborts (a : Word) (z : Size) (w f p : Bool) :
    (s.fillPipe n).aborts a z w f p = s.aborts a z w f p := by simp [State.aborts]

@[simp] theorem State.fillPipe_opcodeAt (a : Word) : (s.fillPipe n).opcodeAt a = s.opcodeAt a := by
  simp [State.opcodeAt]

/-- Filling the queue up to `n` leaves at least `n` instructions, and exactly `n` where there were no more. -/
@[simp] theorem State.fillPipe_length : (s.fillPipe n).pipe.length = max s.pipe.length n := by
  induction n with
  | zero => simp [State.fillPipe]
  | succ n ih =>
    unfold State.fillPipe
    split
    · rename_i h
      obtain ⟨x, y, z, b, h'⟩ := (s.fillPipe n).prefetch_state
      rw [h']
      simp only [List.length_append, ih, List.length_singleton]
      omega
    · omega

/-- A queue that is long enough is left alone (D14). -/
theorem State.fillPipe_of_le (h : n ≤ s.pipe.length) : s.fillPipe n = s := by
  cases n with
  | zero => rfl
  | succ n => unfold State.fillPipe; rw [if_neg (by omega)]

/-- What the queue holds: what it held, and behind it each instruction as it was fetched, with its prefetch-abort mark; the
breakpoint mark is LOW with DBGEN LOW (10 R45, R46, 20 R88, 61 R472). -/
theorem State.fillPipe_get (k : Nat) (hk : k < n) :
    (k < s.pipe.length → (s.fillPipe n).pipe[k]? = s.pipe[k]?) ∧
    (s.pipe.length ≤ k → ∃ b : Bool, (s.pins.dbgen = false → b = false) ∧ (s.fillPipe n).pipe[k]? =
      some ⟨s.opcodeAt (s.pc + BitVec.ofNat 32 k * s.instrBytes),
        s.aborts (s.pc + BitVec.ofNat 32 k * s.instrBytes) (if s.cpsr.t then .half else .word) false true s.privileged,
        b⟩) := by
  induction n with
  | zero => omega
  | succ n ih =>
    unfold State.fillPipe
    split
    · rename_i h
      have hl := State.fillPipe_length s n
      rw [Nat.max_eq_right h] at hl
      obtain ⟨x, y, z, b, h'⟩ := (s.fillPipe n).prefetch_state
      by_cases hkn : k < n
      · rw [h']
        simp only [List.getElem?_append_left (show k < (s.fillPipe n).pipe.length by omega)]
        exact ih hkn
      · have hk' : k = n := by omega
        subst hk'
        refine ⟨fun hlt => absurd hlt (by omega), fun _ => ?_⟩
        have ha : (s.fillPipe k).fetchAddr = s.pc + BitVec.ofNat 32 k * s.instrBytes := by
          simp [State.fetchAddr, Nat.max_eq_right h]
        refine ⟨((((s.fillPipe k).logCycle (s.fillPipe k).nextFetch).iceCycle
          (s.fillPipe k).nextFetch).1), ?_, ?_⟩
        · intro hd
          rw [State.iceCycle_off]
          simpa using hd
        · unfold State.prefetch
          dsimp only
          rw [List.getElem?_append_right (by omega), hl, Nat.sub_self, ha]
          simp [State.nextFetch, State.fetchCycle, State.busCycle, ha]
    · rename_i h
      exact ⟨fun _ => rfl, fun h2 => absurd h2 (by omega)⟩

/-- The same with DBGEN LOW, as the slot of each place. -/
theorem State.fillPipe_slot (k : Nat) (hk : k < n) (h : s.pins.dbgen = false) :
    (s.fillPipe n).pipe[k]? = some (s.slot k) := by
  obtain ⟨h1, h2⟩ := s.fillPipe_get n k hk
  unfold State.slot
  by_cases hl : k < s.pipe.length
  · rw [h1 hl]; simp [hl]
  · obtain ⟨b, hb, e⟩ := h2 (by omega)
    rw [e, hb h]
    simp [hl, State.fetched]

/-- The instruction about to execute is the same after the fetch. -/
theorem State.fillPipe_head (h : s.pipe ≠ []) : (s.fillPipe n).head = s.head := by
  obtain ⟨x, y, z, e, q, cs, hs, -, -⟩ := s.fillPipe_state n
  rw [hs]
  unfold State.head
  cases hp : s.pipe with
  | nil => exact absurd hp h
  | cons a rest => rfl

/-- With DBGEN LOW filling the queue leaves the debug state alone (61 R491). -/
theorem State.fillPipe_dbg_off (h : s.pins.dbgen = false) : (s.fillPipe n).dbg = s.dbg := by
  induction n with
  | zero => rfl
  | succ n ih =>
    unfold State.fillPipe
    split
    · unfold State.prefetch
      dsimp only
      rw [State.iceCycle_off _ _ (by simpa using h)]
      exact ih
    · rfl

end Fill

/-! ### The start of a step -/

@[simp] theorem State.beginStep_regs (s : State) : s.beginStep.regs = s.regs := rfl
@[simp] theorem State.beginStep_pc (s : State) : s.beginStep.pc = s.pc := rfl
@[simp] theorem State.beginStep_cpsr (s : State) : s.beginStep.cpsr = s.cpsr := rfl
@[simp] theorem State.beginStep_spsrs (s : State) : s.beginStep.spsrs = s.spsrs := rfl
@[simp] theorem State.beginStep_pipe (s : State) : s.beginStep.pipe = s.pipe := rfl
@[simp] theorem State.beginStep_inp (s : State) : s.beginStep.inp = s.env.headD Inputs.inactive := rfl
@[simp] theorem State.beginStep_env (s : State) : s.beginStep.env = s.env.tail := rfl
@[simp] theorem State.beginStep_mem (s : State) :
    s.beginStep.mem = Memory.writeCells s.mem (s.env.headD Inputs.inactive).memWrites := rfl
@[simp] theorem State.beginStep_bigend (s : State) : s.beginStep.pins.bigend = s.pins.bigend := rfl
@[simp] theorem State.beginStep_dbgen (s : State) : s.beginStep.pins.dbgen = s.pins.dbgen := rfl
@[simp] theorem State.beginStep_bus (s : State) : s.beginStep.bus = [] := rfl
@[simp] theorem State.beginStep_hazard (s : State) : s.beginStep.hazard = s.hazard := rfl
@[simp] theorem State.beginStep_nonSeq (s : State) : s.beginStep.nonSeq = s.breaksSequence := rfl
@[simp] theorem State.beginStep_cpLog (s : State) : s.beginStep.cpLog = [] := rfl
@[simp] theorem State.beginStep_resetCycles (s : State) : s.beginStep.resetCycles = s.resetCycles := rfl
@[simp] theorem State.beginStep_freeCtr (s : State) : s.beginStep.freeCtr = s.freeCtr + 1 := rfl
@[simp] theorem State.beginStep_dbg (s : State) :
    s.beginStep.dbg = { s.dbg with scanIn := [], scanOut := [], iceOut := none, tapOut := none } := rfl

/-- The writes of other bus masters keep the one form of memory. -/
theorem State.beginStep_wf (s : State) (h : Memory.wf s.mem = true) : Memory.wf s.beginStep.mem = true :=
  Memory.wf_writeCells _ _ h

/-! ### The step as the stage that it comes to -/

/-- Out of reset, with DBGEN LOW, the step is steps 2 to 10 of 60 R436. -/
theorem step_eq_runStep (s : State) (hd : s.pins.dbgen = false) (hr : (s.env.headD Inputs.inactive).nRESET = true)
    (hc : s.resetCycles = 0) : step s = s.beginStep.runStep := by
  show s.cycle = _
  unfold State.cycle
  rw [State.tapStep_off s.beginStep hd]
  show (if !s.beginStep.inp.nRESET then _ else if s.beginStep.resetCycles = 0 then _ else _) = _
  rw [if_neg (by rw [State.beginStep_inp, hr]; decide), if_pos (show s.beginStep.resetCycles = 0 from hc)]

/-- The same with DBGEN HIGH and an idle TAP. -/
theorem step_eq_runStep_idle (s : State) (ht : (s.env.headD Inputs.inactive).nTRST = true)
    (hi : (s.env.headD Inputs.inactive).dbg = .idle) (hr : (s.env.headD Inputs.inactive).nRESET = true)
    (hc : s.resetCycles = 0) : step s = s.beginStep.runStep := by
  show s.cycle = _
  unfold State.cycle
  rw [State.tapStep_idle s.beginStep ht hi]
  show (if !s.beginStep.inp.nRESET then _ else if s.beginStep.resetCycles = 0 then _ else _) = _
  rw [if_neg (by rw [State.beginStep_inp, hr]; decide), if_pos (show s.beginStep.resetCycles = 0 from hc)]

/-- What a step can come to: reset held, the reset entry, or steps 2 to 10 of 60 R436 on the state that the inputs and the
TAP leave. -/
theorem step_cases (s t : State) (h : step s = .next t) :
    ∃ g : Debug, t = State.holdReset { s.beginStep with dbg := g } ∨ t = State.resetEntry { s.beginStep with dbg := g } ∨
      State.runStep { s.beginStep with dbg := g } = .next t := by
  change s.cycle = .next t at h
  unfold State.cycle at h
  split at h
  · exact absurd h (by simp)
  · rename_i u hu
    obtain ⟨g, hg⟩ := State.tapStep_state _ _ hu
    refine ⟨g, ?_⟩
    rw [← hg]
    split at h
    · split at h
      · exact absurd h (by simp)
      · exact .inl (Host.Outcome.next.inj h).symm
    · split at h
      · exact .inr (.inr h)
      · split at h
        · exact absurd h (by simp)
        · exact .inr (.inl (Host.Outcome.next.inj h).symm)

/-- A queue of fewer than three instructions filled up to three: the last memory cycle is the fetch two past the PC. -/
theorem State.fillPipe_three (s : State) (h : s.pipe.length < 3) :
    ∃ (x y z : Bool) (q : List Slot) (cs : List BusCycle) (c : BusCycle),
      s.fillPipe 3 = { s with bus := s.bus ++ (cs ++ [c]), pipe := s.pipe ++ q, nonSeq := false, dbg := s.dbg.seen x y z } ∧
      (cs ++ [c]).length = 3 - s.pipe.length ∧ s.fetches c 2 := by
  obtain ⟨x, y, z, e, q, cs, hu, -, hl⟩ := s.fillPipe_state 2
  have hp : s.pipe.length + q.length = 2 := by
    have := s.fillPipe_length 2
    rw [hu] at this
    simp only [List.length_append] at this
    omega
  obtain ⟨x', y', z', b, h'⟩ := (s.fillPipe 2).prefetch_state
  have ha : (s.fillPipe 2).fetchAddr = s.pc + BitVec.ofNat 32 2 * s.instrBytes := by
    simp [State.fetchAddr, Nat.max_eq_right (show s.pipe.length ≤ 2 by omega)]
  have hc : s.fetches (s.fillPipe 2).nextFetch 2 := by
    unfold State.nextFetch
    rw [ha, hu]
    exact s.fetches_fetchCycle _ s.mem 2 _
  have h3 : s.fillPipe 3 = (s.fillPipe 2).prefetch := by
    rw [State.fillPipe, if_pos (by omega)]
  refine ⟨x', y', z', q ++ [⟨(s.fillPipe 2).opcodeAt (s.fillPipe 2).fetchAddr, (s.fillPipe 2).nextFetch.aborted, b⟩], cs,
    (s.fillPipe 2).nextFetch, ?_, ?_, hc⟩
  · rw [h3, h']
    generalize (s.fillPipe 2).nextFetch = c
    generalize (s.fillPipe 2).opcodeAt _ = w
    rw [hu]
    simp only [List.append_assoc, Debug.seen]
  · simp only [List.length_append, List.length_singleton]
    omega

/-- What the first fetch of an interrupt's entry can do: fetches on the bus and at most in the queue, and what ICEBreaker's view
of them writes; the last of them is the fetch two past the instruction at the PC (70 R546, log 77). -/
theorem State.entryFetch_state (s : State) : ∃ (x y z e : Bool) (q : List Slot) (cs : List BusCycle) (c : BusCycle),
    s.entryFetch = { s with bus := s.bus ++ (cs ++ [c]), pipe := s.pipe ++ q, nonSeq := e, dbg := s.dbg.seen x y z } ∧
      (cs ++ [c]).length = max 1 (3 - s.pipe.length) ∧ s.fetches c 2 := by
  unfold State.entryFetch
  split
  · rename_i h
    obtain ⟨x, y, z, q, cs, c, hs, hl, hc⟩ := State.fillPipe_three { s with nonSeq := s.breaksSequence } h
    exact ⟨x, y, z, false, q, cs, c, hs, hl.trans (by simp only; omega), hc⟩
  · rename_i h
    dsimp only
    obtain ⟨x, y, z, h'⟩ := State.iceCycle_state
      (s.logCycle (s.fetchCycle (s.pc + 2#32 * s.instrBytes) (!s.breaksSequence)))
      (s.fetchCycle (s.pc + 2#32 * s.instrBytes) (!s.breaksSequence))
    refine ⟨x, y, z, s.nonSeq, [], [], _, ?_, ?_, s.fetches_fetchCycle s.bus s.mem 2 (!s.breaksSequence)⟩
    · rw [List.append_nil]
      exact h'
    · simp only [List.nil_append, List.length_singleton]
      omega

/-- The interrupt that is taken, if any (60 R450, R451). -/
theorem State.pendingInterrupt_cases (s : State) (nFIQ nIRQ : Bool) :
    s.pendingInterrupt nFIQ nIRQ = none ∨
      (s.pendingInterrupt nFIQ nIRQ = some s.takeFiq ∧ s.cpsr.f = false ∧ nFIQ = false) ∨
      (s.pendingInterrupt nFIQ nIRQ = some s.takeIrq ∧ s.cpsr.i = false ∧ nIRQ = false) := by
  unfold State.pendingInterrupt
  split
  · rename_i h
    simp only [Bool.and_eq_true, Bool.not_eq_true'] at h
    exact .inr (.inl ⟨rfl, h.1.1, h.1.2⟩)
  · split
    · rename_i h
      simp only [Bool.and_eq_true, Bool.not_eq_true'] at h
      exact .inr (.inr ⟨rfl, h.1.1, h.1.2⟩)
    · exact .inl rfl

/-- With the masks set or the pins HIGH no interrupt is taken. -/
theorem State.pendingInterrupt_none (s : State) (nFIQ nIRQ : Bool) (hf : s.cpsr.f = true ∨ nFIQ = true)
    (hi : s.cpsr.i = true ∨ nIRQ = true) : s.pendingInterrupt nFIQ nIRQ = none := by
  unfold State.pendingInterrupt
  rcases hf with hf | hf <;> rcases hi with hi | hi <;> simp [hf, hi]

/-- A return from an exception: the saved status register comes back, and the PC aligned for its state (60 R452). -/
theorem State.exceptionReturn_next (s t : State) (v : Word) (h : s.exceptionReturn v = .next t) :
    ∃ p : Psr, s.spsr = some p ∧ t.cpsr = p ∧ t.pc = alignPc p.t v ∧ t.pipe = [] ∧ t.regs = s.regs ∧ t.mem = s.mem ∧
      t.spsrs = s.spsrs ∧ t.dbg = s.dbg ∧ t.pins = s.pins := by
  unfold State.exceptionReturn at h
  split at h
  · cases h
  · rename_i p hp
    cases h
    exact ⟨p, hp, rfl, rfl, rfl, rfl, rfl, rfl, rfl, rfl⟩

/-- What the reset entry leaves (70 R520, R522). -/
theorem State.resetEntry_spec (s : State) :
    s.resetEntry.pc = 0#32 ∧ s.resetEntry.cpsr.m = modeSvc ∧ s.resetEntry.cpsr.i = true ∧ s.resetEntry.cpsr.f = true ∧
      s.resetEntry.cpsr.t = false ∧ s.resetEntry.pipe = [] ∧ s.resetEntry.mem = s.mem ∧ s.resetEntry.dbg = s.dbg ∧
      s.resetEntry.pins = s.pins ∧ s.resetEntry.env = s.env ∧ s.resetEntry.resetCycles = 0 := by
  unfold State.resetEntry
  exact ⟨rfl, rfl, rfl, rfl, rfl, rfl, rfl, rfl, rfl, rfl, rfl⟩

/-- Without an aborted data access there is no entry of a data abort. -/
theorem State.abortFetch_none (s before : State) (h : ∀ c ∈ s.bus, c.fetch = false → c.aborted = false) :
    s.abortFetch before = s := by
  unfold State.abortFetch
  rw [if_neg]
  intro ha
  obtain ⟨c, hc, hf⟩ := List.any_eq_true.mp ha
  simp only [Bool.and_eq_true, Bool.not_eq_true'] at hf
  rw [h c hc hf.1] at hf
  exact absurd hf.2 (by decide)

/-- The first fetch of a data abort's entry, where a data access was aborted: in the mode and the state of before, three
instructions ahead (70 R546, log 76); and nothing else but what ICEBreaker's view of it writes. -/
theorem State.abortFetch_some (s before : State) (h : ∃ c ∈ s.bus, c.fetch = false ∧ c.aborted = true) :
    ∃ (x y z : Bool) (c : BusCycle), before.fetches c 3 ∧
      s.abortFetch before = { s with bus := s.bus ++ [c], dbg := s.dbg.seen x y z } ∧
      (s.pins.dbgen = false → s.dbg.seen x y z = s.dbg) := by
  obtain ⟨c, hc, hf, ha⟩ := h
  unfold State.abortFetch
  rw [if_pos (List.any_eq_true.mpr ⟨c, hc, by simp [hf, ha]⟩)]
  obtain ⟨x, y, z, h⟩ := (s.logCycle (s.abortCycle before)).iceCycle_state (s.abortCycle before)
  refine ⟨x, y, z, s.abortCycle before, before.fetches_fetchCycle s.bus s.mem 3 _, h, fun hd => ?_⟩
  rw [State.iceCycle_off (s.logCycle (s.abortCycle before)) _ hd] at h
  exact (congrArg State.dbg h).symm

/-- What that fetch can do, whether or not an access was aborted. -/
theorem State.abortFetch_state (s before : State) :
    ∃ (x y z : Bool) (cs : List BusCycle), s.abortFetch before = { s with bus := s.bus ++ cs, dbg := s.dbg.seen x y z } := by
  by_cases h : ∃ c ∈ s.bus, c.fetch = false ∧ c.aborted = true
  · obtain ⟨x, y, z, c, -, h, -⟩ := s.abortFetch_some before h
    exact ⟨x, y, z, [c], h⟩
  · refine ⟨s.dbg.chainOut, s.dbg.rangeOut0, s.dbg.rangeOut1, [], ?_⟩
    rw [s.abortFetch_none before fun c hc hf => by
      cases ha : c.aborted
      · rfl
      · exact absurd ⟨c, hc, hf, ha⟩ h]
    simp [Debug.seen]

/-- The end of an instruction with DBGEN LOW: the first fetch of a data abort's entry, and the refill where the instruction
emptied the pipeline (61 R491). -/
theorem State.endInstruction_off (s before : State) (h : s.pins.dbgen = false) :
    s.endInstruction before = (s.abortFetch before).fillPipe 2 := by
  unfold State.endInstruction
  dsimp only
  rw [State.iceCycles_off _ s h]
  rfl

/-- An instruction that executes, and its end. -/
theorem State.executeNext_next (s t : State) (h : s.executeNext = .next t) :
    (∃ (i : Instr) (u : State), s.decodeNext = .ok i ∧ exec i s = .next u ∧ t = u.endInstruction s) ∨ t = s.advance := by
  unfold State.executeNext at h
  split at h
  · rename_i e _
    unfold State.undecodable at h
    split at h
    · cases h
    · split at h
      · split at h <;> cases h
      · cases h; exact .inr rfl
  · rename_i i hi
    split at h
    · rename_i u hu; cases h; exact .inl ⟨i, u, hi, hu, rfl⟩
    · cases h
    · cases h

end Sys2Proof.Machine
end

