-- ==== Sys2Proof/Tests/Slice0.lean ====
section
/-! SUPPORT. The model's own tests: the decoding of every constructor from a word written out field by field from the
encoding that spec/opcode_table.json gives it; the checks of WellFormed; small steps whose results are worked out by hand
from the rules of spec/; and for every statement with hypotheses a state and operands that meet them. -/

namespace Sys2Proof.Tests

set_option Elab.async false

open Sys2Proof Sys2Proof.Machine

/-! ### Decoding (30 and the encoding tables of 40 to 49) -/

theorem test_decode_branches :
    (([
      (0b0000_000100101111111111110001_0001, .bx .eq 1#4),
      (0b0001_1010_001011001110001111000011, .b .ne 0x2CE3C3#24),
      (0b0010_1011_001110000001110010110011, .bl .cs 0x381CB3#24)] : List (BitVec 32 × Instr)).all
      fun r => decide (decodeArm r.1 = .ok r.2)) = true := by
  decide +kernel

theorem test_decode_and_to_add :
    (([
      (0b0011_0010000_0_0010_0101_0100_10100100, .andImm .cc false 2#4 5#4 4#4 164#8),
      (0b0100_0000000_1_0111_1010_10101_01_0_1101, .andShift .mi true 7#4 10#4 21#5 .lsr 13#4),
      (0b0101_0000000_0_1100_0001_0100_0_01_1_0111, .andReg .pl false 12#4 1#4 4#4 .lsr 7#4),
      (0b0110_0010001_1_0011_0110_0110_01110110, .eorImm .vs true 3#4 6#4 6#4 118#8),
      (0b0111_0000001_0_1000_1011_00111_10_0_1110, .eorShift .vc false 8#4 11#4 7#5 .asr 14#4),
      (0b1000_0000001_1_1101_0010_0101_0_10_1_1000, .eorReg .hi true 13#4 2#4 5#4 .asr 8#4),
      (0b1001_0010010_0_0100_0111_1001_01001001, .subImm .ls false 4#4 7#4 9#4 73#8),
      (0b1010_0000010_1_1001_1100_11001_11_0_0001, .subShift .ge true 9#4 12#4 25#5 .ror 1#4),
      (0b1011_0000010_0_1110_0011_0110_0_11_1_1001, .subReg .lt false 14#4 3#4 6#4 .ror 9#4),
      (0b1100_0010011_1_0101_1000_1011_00011011, .rsbImm .gt true 5#4 8#4 11#4 27#8),
      (0b1101_0000011_0_1010_1101_01100_00_0_0010, .rsbShift .le false 10#4 13#4 12#5 .lsl 2#4),
      (0b1110_0000011_1_0001_0100_0111_0_00_1_1010, .rsbReg .al true 1#4 4#4 7#4 .lsl 10#4),
      (0b0000_0010100_0_0110_1001_1101_11101101, .addImm .eq false 6#4 9#4 13#4 237#8),
      (0b0001_0000100_1_1011_1110_11110_01_0_0011, .addShift .ne true 11#4 14#4 30#5 .lsr 3#4),
      (0b0010_0000100_0_0010_0101_1000_0_01_1_1011, .addReg .cs false 2#4 5#4 8#4 .lsr 11#4)] : List (BitVec 32 × Instr)).all
      fun r => decide (decodeArm r.1 = .ok r.2)) = true := by
  decide +kernel

theorem test_decode_adc_to_rsc :
    (([
      (0b0011_0010101_1_0111_1010_1111_10111111, .adcImm .cc true 7#4 10#4 15#4 191#8),
      (0b0100_0000101_0_1100_0001_10000_10_0_0100, .adcShift .mi false 12#4 1#4 16#5 .asr 4#4),
      (0b0101_0000101_1_0011_0110_1001_0_10_1_1100, .adcReg .pl true 3#4 6#4 9#4 .asr 12#4),
      (0b0110_0010110_0_1000_1011_0010_10010010, .sbcImm .vs false 8#4 11#4 2#4 146#8),
      (0b0111_0000110_1_1101_0010_00010_11_0_0101, .sbcShift .vc true 13#4 2#4 2#5 .ror 5#4),
      (0b1000_0000110_0_0100_0111_1010_0_11_1_1101, .sbcReg .hi false 4#4 7#4 10#4 .ror 13#4),
      (0b1001_0010111_1_1001_1100_0100_01100100, .rscImm .ls true 9#4 12#4 4#4 100#8),
      (0b1010_0000111_0_1110_0011_10101_00_0_0110, .rscShift .ge false 14#4 3#4 21#5 .lsl 6#4),
      (0b1011_0000111_1_0101_1000_1011_0_00_1_1110, .rscReg .lt true 5#4 8#4 11#4 .lsl 14#4)] : List (BitVec 32 × Instr)).all
      fun r => decide (decodeArm r.1 = .ok r.2)) = true := by
  decide +kernel

theorem test_decode_tests :
    (([
      (0b1100_00110001_1010_1101_0110_00110110, .tstImm .gt 10#4 13#4 6#4 54#8),
      (0b1101_00010001_0001_0100_00111_01_0_0111, .tstShift .le 1#4 4#4 7#5 .lsr 7#4),
      (0b1110_00010001_0110_1001_1100_0_01_1_0001, .tstReg .al 6#4 9#4 12#4 .lsr 1#4),
      (0b0000_00110011_1011_1110_1000_00001000, .teqImm .eq 11#4 14#4 8#4 8#8),
      (0b0001_00010011_0010_0101_11001_10_0_1000, .teqShift .ne 2#4 5#4 25#5 .asr 8#4),
      (0b0010_00010011_0111_1010_1101_0_10_1_0010, .teqReg .cs 7#4 10#4 13#4 .asr 2#4),
      (0b0011_00110101_1100_0001_1011_11011011, .cmpImm .cc 12#4 1#4 11#4 219#8),
      (0b0100_00010101_0011_0110_01011_11_0_1001, .cmpShift .mi 3#4 6#4 11#5 .ror 9#4),
      (0b0101_00010101_1000_1011_1110_0_11_1_0011, .cmpReg .pl 8#4 11#4 14#4 .ror 3#4),
      (0b0110_00110111_1101_0010_1101_10101101, .cmnImm .vs 13#4 2#4 13#4 173#8),
      (0b0111_00010111_0100_0111_11110_00_0_1010, .cmnShift .vc 4#4 7#4 30#5 .lsl 10#4),
      (0b1000_00010111_1001_1100_0001_0_00_1_0100, .cmnReg .hi 9#4 12#4 1#4 .lsl 4#4)] : List (BitVec 32 × Instr)).all
      fun r => decide (decodeArm r.1 = .ok r.2)) = true := by
  decide +kernel

theorem test_decode_orr_to_mvn :
    (([
      (0b1001_0011100_0_1110_0011_1111_01111111, .orrImm .ls false 14#4 3#4 15#4 127#8),
      (0b1010_0001100_1_0101_1000_10000_01_0_1011, .orrShift .ge true 5#4 8#4 16#5 .lsr 11#4),
      (0b1011_0001100_0_1010_1101_0010_0_01_1_0101, .orrReg .lt false 10#4 13#4 2#4 .lsr 5#4),
      (0b1100_0011101_1_0001_0100_0001_01010001, .movImm .gt true 1#4 4#4 1#4 81#8),
      (0b1101_0001101_0_0110_1001_00010_10_0_1100, .movShift .le false 6#4 9#4 2#5 .asr 12#4),
      (0b1110_0001101_1_1011_1110_0011_0_10_1_0110, .movReg .al true 11#4 14#4 3#4 .asr 6#4),
      (0b0000_0011110_0_0010_0101_0100_00100100, .bicImm .eq false 2#4 5#4 4#4 36#8),
      (0b0001_0001110_1_0111_1010_10100_11_0_1101, .bicShift .ne true 7#4 10#4 20#5 .ror 13#4),
      (0b0010_0001110_0_1100_0001_0100_0_11_1_0111, .bicReg .cs false 12#4 1#4 4#4 .ror 7#4),
      (0b0011_0011111_1_0011_0110_0110_11110110, .mvnImm .cc true 3#4 6#4 6#4 246#8),
      (0b0100_0001111_0_1000_1011_00111_00_0_1110, .mvnShift .mi false 8#4 11#4 7#5 .lsl 14#4),
      (0b0101_0001111_1_1101_0010_0101_0_00_1_1000, .mvnReg .pl true 13#4 2#4 5#4 .lsl 8#4)] : List (BitVec 32 × Instr)).all
      fun r => decide (decodeArm r.1 = .ok r.2)) = true := by
  decide +kernel

theorem test_decode_psr_and_multiply :
    (([
      (0b0110_00010_0_001111_0100_000000000000, .mrs .vs false 4#4),
      (0b0111_00010_1_101001111100000000_1001, .msrReg .vc true 9#4),
      (0b1000_00010_0_101000111100000000_1110, .msrFlagsReg .hi false 14#4),
      (0b1001_00110_1_1010001111_1010_10011010, .msrFlagsImm .ls true 10#4 154#8),
      (0b1010_0000000_0_1010_1101_0010_1001_0101, .mul .ge false 10#4 13#4 2#4 5#4),
      (0b1011_0000001_1_0001_0100_0111_1001_1010, .mla .lt true 1#4 4#4 7#4 10#4),
      (0b1100_0000100_0_0110_1001_1100_1001_0001, .umull .gt false 6#4 9#4 12#4 1#4),
      (0b1101_0000101_1_1011_1110_0011_1001_0110, .umlal .le true 11#4 14#4 3#4 6#4),
      (0b1110_0000110_0_0010_0101_1000_1001_1011, .smull .al false 2#4 5#4 8#4 11#4),
      (0b0000_0000111_1_0111_1010_1101_1001_0010, .smlal .eq true 7#4 10#4 13#4 2#4)] : List (BitVec 32 × Instr)).all
      fun r => decide (decodeArm r.1 = .ok r.2)) = true := by
  decide +kernel

theorem test_decode_str_ldr :
    (([
      (0b0001_0101_0_0_1_0_1100_0001_110000110000, .strImmPre .ne false true 12#4 1#4 0xC30#12),
      (0b0010_0100_1_000_0011_0110_010100100000, .strImmPost .cs true 3#4 6#4 0x520#12),
      (0b0011_0100_0_010_1000_1011_111000010001, .strtImm .cc false 8#4 11#4 0xE11#12),
      (0b0100_0111_1_0_0_0_1101_0010_00010_01_0_0101, .strRegPre .mi true false 13#4 2#4 2#5 .lsr 5#4),
      (0b0101_0110_0_000_0100_0111_10011_01_0_1010, .strRegPost .pl false 4#4 7#4 19#5 .lsr 10#4),
      (0b0110_0110_1_010_1001_1100_00011_10_0_0001, .strtReg .vs true 9#4 12#4 3#5 .asr 1#4),
      (0b0111_0101_0_0_0_1_1110_0011_000111010100, .ldrImmPre .vc false false 14#4 3#4 0x1D4#12),
      (0b1000_0100_1_001_0101_1000_101011000101, .ldrImmPost .hi true 5#4 8#4 0xAC5#12),
      (0b1001_0100_0_011_1010_1101_001110110110, .ldrtImm .ls false 10#4 13#4 0x3B6#12),
      (0b1010_0111_1_0_1_1_0001_0100_00110_11_0_0111, .ldrRegPre .ge true true 1#4 4#4 6#5 .ror 7#4),
      (0b1011_0110_0_001_0110_1001_10111_11_0_1100, .ldrRegPost .lt false 6#4 9#4 23#5 .ror 12#4),
      (0b1100_0110_1_011_1011_1110_01000_00_0_0011, .ldrtReg .gt true 11#4 14#4 8#5 .lsl 3#4)] : List (BitVec 32 × Instr)).all
      fun r => decide (decodeArm r.1 = .ok r.2)) = true := by
  decide +kernel

theorem test_decode_strb_ldrb :
    (([
      (0b1101_0101_0_1_1_0_0010_0101_011101111001, .strbImmPre .le false true 2#4 5#4 0x779#12),
      (0b1110_0100_1_100_0111_1010_000001101001, .strbImmPost .al true 7#4 10#4 0x69#12),
      (0b0000_0100_0_110_1100_0001_100101011010, .strbtImm .eq false 12#4 1#4 0x95A#12),
      (0b0001_0111_1_1_0_0_0011_0110_01011_01_0_1001, .strbRegPre .ne true false 3#4 6#4 11#5 .lsr 9#4),
      (0b0010_0110_0_100_1000_1011_11100_01_0_1110, .strbRegPost .cs false 8#4 11#4 28#5 .lsr 14#4),
      (0b0011_0110_1_110_1101_0010_01100_10_0_0101, .strbtReg .cc true 13#4 2#4 12#5 .asr 5#4),
      (0b0100_0101_0_1_0_1_0100_0111_110100011101, .ldrbImmPre .mi false false 4#4 7#4 0xD1D#12),
      (0b0101_0100_1_101_1001_1100_011000001110, .ldrbImmPost .pl true 9#4 12#4 0x60E#12),
      (0b0110_0100_0_111_1110_0011_111011111111, .ldrbtImm .vs false 14#4 3#4 0xEFF#12),
      (0b0111_0111_1_1_1_1_0101_1000_01111_11_0_1011, .ldrbRegPre .vc true true 5#4 8#4 15#5 .ror 11#4),
      (0b1000_0110_0_101_1010_1101_00001_11_0_0010, .ldrbRegPost .hi false 10#4 13#4 1#5 .ror 2#4),
      (0b1001_0110_1_111_0001_0100_10001_00_0_0111, .ldrbtReg .ls true 1#4 4#4 17#5 .lsl 7#4)] : List (BitVec 32 × Instr)).all
      fun r => decide (decodeArm r.1 = .ok r.2)) = true := by
  decide +kernel

theorem test_decode_halfword :
    (([
      (0b1010_000_0_1_0_1_0_0110_1001_00001011_1100, .strhReg .ge false true true 6#4 9#4 12#4),
      (0b1011_000_1_1_1_1_0_1011_1110_0010_1011_0010, .strhImm .lt true true true 11#4 14#4 34#8),
      (0b1100_000_0_0_0_0_1_0010_0101_00001011_1000, .ldrhReg .gt false false false 2#4 5#4 8#4),
      (0b1101_000_1_0_1_0_1_0111_1010_0100_1011_0100, .ldrhImm .le true false false 7#4 10#4 68#8),
      (0b1110_000_0_1_0_0_1_1100_0001_00001101_0100, .ldrsbReg .al false true false 12#4 1#4 4#4),
      (0b0000_000_1_1_1_0_1_0011_0110_0101_1101_0101, .ldrsbImm .eq true true false 3#4 6#4 85#8),
      (0b0001_000_0_0_0_1_1_1000_1011_00001111_1110, .ldrshReg .ne false false true 8#4 11#4 14#4),
      (0b0010_000_1_0_1_1_1_1101_0010_0111_1111_0111, .ldrshImm .cs true false true 13#4 2#4 119#8)] : List (BitVec 32 × Instr)).all
      fun r => decide (decodeArm r.1 = .ok r.2)) = true := by
  decide +kernel

theorem test_decode_block_swap_coprocessor :
    (([
      (0b0011_100_0_1_1_0_0_0100_0101101001001000, .stm .cc false true true false 4#4 0x5A48#16),
      (0b0100_100_1_1_1_1_1_1001_1001001100111000, .ldm .mi true true true true 9#4 0x9338#16),
      (0b0101_00010000_1110_0011_00001001_0110, .swp .pl 14#4 3#4 6#4),
      (0b0110_00010100_0101_1000_00001001_1011, .swpb .vs 5#4 8#4 11#4),
      (0b0111_1111_011000100011111000001011, .swi .vc 0x623E0B#24),
      (0b1000_1110_1011_1011_1011_1011_011_0_1011, .cdp .hi 11#4 11#4 11#4 11#4 3#3 11#4),
      (0b1001_110_0_0_1_0_0_0110_1100_1100_11101100, .stc .ls false false true false 6#4 12#4 12#4 236#8),
      (0b1010_110_1_0_1_1_1_1011_1101_1101_11011101, .ldc .ge true false true true 11#4 13#4 13#4 221#8),
      (0b1011_1110_110_0_1110_0010_1110_110_1_1110, .mcr .lt 6#3 14#4 2#4 14#4 6#3 14#4),
      (0b1100_1110_110_1_1110_0111_1110_110_1_1110, .mrc .gt 6#3 14#4 7#4 14#4 6#3 14#4),
      (0b1101_011_01011001001110101111_1_1111, .undef .le 0x593AF#20 15#4)] : List (BitVec 32 × Instr)).all
      fun r => decide (decodeArm r.1 = .ok r.2)) = true := by
  decide +kernel

theorem test_decode_thumb_1_2_3 :
    (([
      (0b00000_00001_001_011, .tLslImm 1#5 1#3 3#3),
      (0b00001_10001_100_110, .tLsrImm 17#5 4#3 6#3),
      (0b00010_00001_111_001, .tAsrImm 1#5 7#3 1#3),
      (0b0001100_010_100_011, .tAddReg 2#3 4#3 3#3),
      (0b0001101_101_111_110, .tSubReg 5#3 7#3 6#3),
      (0b0001110_100_000_010, .tAddImm3 4#3 0#3 2#3),
      (0b0001111_100_011_101, .tSubImm3 4#3 3#3 5#3),
      (0b00100_110_00110101, .tMovImm 6#3 53#8),
      (0b00101_001_00100110, .tCmpImm 1#3 38#8),
      (0b00110_100_00010111, .tAddImm8 4#3 23#8),
      (0b00111_111_00000111, .tSubImm8 7#3 7#8)] : List (BitVec 16 × Instr)).all
      fun r => decide (decodeThumb r.1 = .ok r.2)) = true := by
  decide +kernel

theorem test_decode_thumb_4 :
    (([
      (0b0100000000_010_100, .tAnd 2#3 4#3),
      (0b0100000001_101_111, .tEor 5#3 7#3),
      (0b0100000010_000_010, .tLslReg 0#3 2#3),
      (0b0100000011_011_101, .tLsrReg 3#3 5#3),
      (0b0100000100_110_000, .tAsrReg 6#3 0#3),
      (0b0100000101_001_011, .tAdc 1#3 3#3),
      (0b0100000110_100_110, .tSbc 4#3 6#3),
      (0b0100000111_111_001, .tRorReg 7#3 1#3),
      (0b0100001000_010_100, .tTst 2#3 4#3),
      (0b0100001001_101_111, .tNeg 5#3 7#3),
      (0b0100001010_000_010, .tCmp 0#3 2#3),
      (0b0100001011_011_101, .tCmn 3#3 5#3),
      (0b0100001100_110_000, .tOrr 6#3 0#3),
      (0b0100001101_001_011, .tMul 1#3 3#3),
      (0b0100001110_100_110, .tBic 4#3 6#3),
      (0b0100001111_111_001, .tMvn 7#3 1#3)] : List (BitVec 16 × Instr)).all
      fun r => decide (decodeThumb r.1 = .ok r.2)) = true := by
  decide +kernel

theorem test_decode_thumb_5 :
    (([
      (0b0100010001_010_100, .tAddLoHi 2#3 4#3),
      (0b0100010010_101_111, .tAddHiLo 5#3 7#3),
      (0b0100010011_000_010, .tAddHiHi 0#3 2#3),
      (0b0100010000_011_101, .tAddLoLo 3#3 5#3),
      (0b0100010101_110_000, .tCmpLoHi 6#3 0#3),
      (0b0100010110_001_011, .tCmpHiLo 1#3 3#3),
      (0b0100010111_100_110, .tCmpHiHi 4#3 6#3),
      (0b0100010100_111_001, .tCmpLoLo 7#3 1#3),
      (0b0100011001_010_100, .tMovLoHi 2#3 4#3),
      (0b0100011010_101_111, .tMovHiLo 5#3 7#3),
      (0b0100011011_000_010, .tMovHiHi 0#3 2#3),
      (0b0100011000_011_101, .tMovLoLo 3#3 5#3),
      (0b0100011100_110_101, .tBxLo 6#3 5#3),
      (0b0100011101_001_110, .tBxHi 1#3 6#3),
      (0b010001111_0_100_111, .tBxH1 false 4#3 7#3)] : List (BitVec 16 × Instr)).all
      fun r => decide (decodeThumb r.1 = .ok r.2)) = true := by
  decide +kernel

theorem test_decode_thumb_loads_stores :
    (([
      (0b01001_111_00011111, .tLdrPc 7#3 31#8),
      (0b0101000_010_100_011, .tStrReg 2#3 4#3 3#3),
      (0b0101010_101_111_110, .tStrbReg 5#3 7#3 6#3),
      (0b0101100_000_010_001, .tLdrReg 0#3 2#3 1#3),
      (0b0101110_011_101_100, .tLdrbReg 3#3 5#3 4#3),
      (0b0101001_110_000_111, .tStrhReg 6#3 0#3 7#3),
      (0b0101101_001_011_010, .tLdrhReg 1#3 3#3 2#3),
      (0b0101011_100_110_101, .tLdsbReg 4#3 6#3 5#3),
      (0b0101111_111_001_000, .tLdshReg 7#3 1#3 0#3),
      (0b01100_10110_010_100, .tStrImm 22#5 2#3 4#3),
      (0b01101_00111_101_111, .tLdrImm 7#5 5#3 7#3),
      (0b01110_11000_000_010, .tStrbImm 24#5 0#3 2#3),
      (0b01111_01000_011_101, .tLdrbImm 8#5 3#3 5#3),
      (0b10000_11001_110_000, .tStrhImm 25#5 6#3 0#3),
      (0b10001_01010_001_011, .tLdrhImm 10#5 1#3 3#3),
      (0b10010_100_00111011, .tStrSp 4#3 59#8),
      (0b10011_111_00101011, .tLdrSp 7#3 43#8),
      (0b10100_010_00011100, .tAddPc 2#3 28#8),
      (0b10101_101_00001101, .tAddSp 5#3 13#8),
      (0b101100000_1111110, .tAddSpPos 126#7),
      (0b101100001_1101110, .tAddSpNeg 110#7),
      (0b10110100_11011111, .tPush 223#8),
      (0b10110101_11010000, .tPushLr 208#8),
      (0b10111100_11000001, .tPop 193#8),
      (0b10111101_10110001, .tPopPc 177#8),
      (0b11000_010_10100010, .tStmia 2#3 162#8),
      (0b11001_101_10010011, .tLdmia 5#3 147#8)] : List (BitVec 16 × Instr)).all
      fun r => decide (decodeThumb r.1 = .ok r.2)) = true := by
  decide +kernel

theorem test_decode_thumb_branches :
    (([
      (0b11010000_10000100, .tBeq 132#8),
      (0b11010001_01110100, .tBne 116#8),
      (0b11010010_01100101, .tBcs 101#8),
      (0b11010011_01010110, .tBcc 86#8),
      (0b11010100_01000111, .tBmi 71#8),
      (0b11010101_00110111, .tBpl 55#8),
      (0b11010110_00101000, .tBvs 40#8),
      (0b11010111_00011001, .tBvc 25#8),
      (0b11011000_00001010, .tBhi 10#8),
      (0b11011001_11111010, .tBls 250#8),
      (0b11011010_11101011, .tBge 235#8),
      (0b11011011_11011100, .tBlt 220#8),
      (0b11011100_11001101, .tBgt 205#8),
      (0b11011101_10111101, .tBle 189#8),
      (0b11011110_10101110, .tUndefCond 174#8),
      (0b11011111_10011111, .tSwi 159#8),
      (0b11100_10010010000, .tB 0x490#11),
      (0b11110_10110000000, .tBlHigh 0x580#11),
      (0b11111_11001110001, .tBlLow 0x671#11),
      (0b10110001_01100010, .tUndefB1 98#8),
      (0b1011001_001010011, .tUndefB2 0x53#9),
      (0b1011011_101000011, .tUndefB6 0x143#9),
      (0b101110_1000110100, .tUndefB8 0x234#10),
      (0b1011111_100100101, .tUndefBe 0x125#9),
      (0b11101_10000010110, .tUndefE8 0x416#11)] : List (BitVec 16 × Instr)).all
      fun r => decide (decodeThumb r.1 = .ok r.2)) = true := by
  decide +kernel

/-! ### Well-formedness: an ill-formed term for each check -/

theorem test_wf_bx_r15 : Instr.wf (.bx .al 15#4) = false := by decide
theorem test_wf_shift_amount_r15 : Instr.wf (.addReg .al false 1#4 2#4 15#4 .lsl 3#4) = false := by decide
theorem test_wf_test_amount_r15 : Instr.wf (.cmpReg .al 1#4 0#4 15#4 .lsr 3#4) = false := by decide
theorem test_wf_mrs_r15 : Instr.wf (.mrs .al false 15#4) = false := by decide
theorem test_wf_msr_r15 : Instr.wf (.msrReg .al false 15#4) = false := by decide
theorem test_wf_msr_flags_r15 : Instr.wf (.msrFlagsReg .al true 15#4) = false := by decide
theorem test_wf_mul_r15 : Instr.wf (.mul .al false 15#4 0#4 1#4 2#4) = false := by decide
theorem test_wf_mla_r15 : Instr.wf (.mla .al false 3#4 15#4 1#4 2#4) = false := by decide
theorem test_wf_long_r15 : Instr.wf (.umull .al false 3#4 15#4 1#4 2#4) = false := by decide
theorem test_wf_base_r15_written_back : Instr.wf (.ldrImmPre .al true true 15#4 0#4 4#12) = false := by decide
theorem test_wf_post_base_r15 : Instr.wf (.strImmPost .al true 15#4 0#4 4#12) = false := by decide
theorem test_wf_offset_r15 : Instr.wf (.ldrRegPre .al true false 1#4 0#4 0#5 .lsl 15#4) = false := by decide
theorem test_wf_half_post_w : Instr.wf (.ldrhImm .al false true true 1#4 0#4 4#8) = false := by decide
theorem test_wf_half_base_r15 : Instr.wf (.strhImm .al false true false 15#4 0#4 4#8) = false := by decide
theorem test_wf_half_offset_r15 : Instr.wf (.ldrshReg .al true true false 1#4 0#4 15#4) = false := by decide
theorem test_wf_empty_list : Instr.wf (.ldm .al false true false false 1#4 0#16) = false := by decide
theorem test_wf_block_base_r15 : Instr.wf (.stm .al false true false false 15#4 1#16) = false := by decide
theorem test_wf_user_bank_write_back : Instr.wf (.stm .al false true true true 1#4 1#16) = false := by decide
theorem test_wf_user_bank_load_write_back : Instr.wf (.ldm .al false true true true 1#4 1#16) = false := by decide
theorem test_wf_swap_r15 : Instr.wf (.swp .al 15#4 0#4 1#4) = false := by decide
theorem test_wf_coproc_base_r15 : Instr.wf (.ldc .al true true false true 15#4 0#4 1#4 0#8) = false := by decide
theorem test_wf_thumb_lo_lo : Instr.wf (.tAddLoLo 0#3 1#3) = false := by decide
theorem test_wf_thumb_bx_h1 : Instr.wf (.tBxH1 false 0#3 1#3) = false := by decide
theorem test_wf_thumb_empty_list : Instr.wf (.tPush 0#8) = false := by decide

/-! ### Small states -/

/-- An outcome is a next state with a property. -/
def nextHas (o : Result) (f : State → Bool) : Bool :=
  match o with
  | .next t => f t
  | _ => false

/-- An outcome is a fault. -/
def faultIs (o : Result) (f : Fault) : Bool :=
  match o with
  | .fault g => g == f
  | _ => false

/-- An outcome is a refusal. -/
def refusedIs (o : Result) (r : Refusal) : Bool :=
  match o with
  | .refused g => g == r
  | _ => false

/-- ARM state in Supervisor mode at 0x8000, with R1, R2 and R3. -/
def armState (r1 r2 r3 : Word) : State :=
  { ((State.reset.setReg .r1 r1).setReg .r2 r2).setReg .r3 r3 with pc := 0x8000#32 }

/-- The same in THUMB state. -/
def thumbState (r1 r2 r3 : Word) : State :=
  { armState r1 r2 r3 with cpsr := { State.reset.cpsr with t := true } }

/-- The same state with the carry flag set. -/
def carry (s : State) : State := { s with cpsr := { s.cpsr with c := true } }

/-- The same state in another mode. -/
def inMode (s : State) (m : BitVec 5) : State := { s with cpsr := { s.cpsr with m := m } }

/-- The bytes 0x11, 0x22, 0x33, 0x84 at 0x100, little-endian 0x84332211. -/
def withData (s : State) : State :=
  { s with mem := [(0x100, 0x11#8), (0x101, 0x22#8), (0x102, 0x33#8), (0x103, 0x84#8)] }

/-- Every access is aborted. -/
def aborting (s : State) : State :=
  { s with pins :=
    { s.pins with abortMap := [⟨0, 4294967295, true, true, true, true, true, true, true, true, true⟩] } }

/-- An external coprocessor 1 that answers. -/
def withCoproc (s : State) (r : CopReply) : State :=
  { s with pins := { s.pins with coprocPresent := 2#16 }, inp := { s.inp with cop := r } }

/-- N, Z, C and V. -/
def nzcv (s : State) : List Bool := [s.cpsr.n, s.cpsr.z, s.cpsr.c, s.cpsr.v]

/-- A next state in which R0 and the flags are as given. -/
def gives (o : Result) (r0 : Word) (flags : List Bool) : Bool :=
  nextHas o fun t => t.getReg .r0 == r0 && nzcv t == flags

/-! ### ARM data processing, by hand from 41 -/

theorem test_and_masks : gives (exec (.andImm .al true 1#4 0#4 0#4 0xFF#8) (armState 0xF0F0F0F0#32 0 0)) 0xF0#32
    [false, false, false, false] = true := by decide +kernel
theorem test_and_rotated_carry :
    gives (exec (.andImm .al true 1#4 0#4 4#4 0xFF#8) (armState 0xF0F0F0F0#32 0 0)) 0xF0000000#32
    [true, false, true, false] = true := by decide +kernel
theorem test_eor_shift : gives (exec (.eorShift .al false 1#4 0#4 4#5 .lsl 2#4) (armState 0x0F#32 1#32 0)) 0x1F#32
    [false, false, false, false] = true := by decide +kernel
theorem test_sub_borrow : gives (exec (.subImm .al true 1#4 0#4 0#4 7#8) (armState 5#32 0 0)) 0xFFFFFFFE#32
    [true, false, false, false] = true := by decide +kernel
theorem test_sub_overflow :
    gives (exec (.subShift .al true 1#4 0#4 0#5 .lsl 2#4) (armState 0x80000000#32 1#32 0)) 0x7FFFFFFF#32
    [false, false, true, true] = true := by decide +kernel
theorem test_rsb_order : gives (exec (.rsbImm .al true 1#4 0#4 0#4 10#8) (armState 3#32 0 0)) 7#32
    [false, false, true, false] = true := by decide +kernel
theorem test_add_wraps : gives (exec (.addImm .al true 1#4 0#4 0#4 1#8) (armState 0xFFFFFFFF#32 0 0)) 0#32
    [false, true, true, false] = true := by decide +kernel
theorem test_add_overflow :
    gives (exec (.addReg .al true 1#4 0#4 3#4 .lsl 2#4) (armState 0x7FFFFFFF#32 1#32 0)) 0x80000000#32
    [true, false, false, true] = true := by decide +kernel
theorem test_adc_carry_in : gives (exec (.adcImm .al true 1#4 0#4 0#4 1#8) (carry (armState 0xFFFFFFFF#32 0 0))) 1#32
    [false, false, true, false] = true := by decide +kernel
theorem test_sbc_borrow_in : gives (exec (.sbcImm .al true 1#4 0#4 0#4 3#8) (armState 5#32 0 0)) 1#32
    [false, false, true, false] = true := by decide +kernel
theorem test_rsc_borrow_in : gives (exec (.rscImm .al true 1#4 0#4 0#4 3#8) (armState 5#32 0 0)) 0xFFFFFFFD#32
    [true, false, false, false] = true := by decide +kernel
theorem test_tst_zero : gives (exec (.tstImm .al 1#4 0#4 0#4 2#8) (carry (armState 1#32 0 0))) 0#32
    [false, true, true, false] = true := by decide +kernel
theorem test_teq_shifter_carry :
    gives (exec (.teqShift .al 1#4 0#4 1#5 .lsl 2#4) (armState 0#32 0x80000000#32 0)) 0#32
    [false, true, true, false] = true := by decide +kernel
theorem test_cmp_equal : gives (exec (.cmpShift .al 1#4 0#4 0#5 .lsl 2#4) (armState 5#32 5#32 0)) 0#32
    [false, true, true, false] = true := by decide +kernel
theorem test_cmn_carry : gives (exec (.cmnImm .al 1#4 0#4 0#4 1#8) (armState 0xFFFFFFFF#32 0 0)) 0#32
    [false, true, true, false] = true := by decide +kernel
theorem test_orr : gives (exec (.orrReg .al true 1#4 0#4 3#4 .lsl 2#4) (armState 0x1#32 0x1#32 4#32)) 0x11#32
    [false, false, false, false] = true := by decide +kernel
theorem test_mov_lsl_33 :
    gives (exec (.movReg .al true 0#4 0#4 3#4 .lsl 2#4) (carry (armState 0 0xFFFFFFFF#32 33#32))) 0#32
    [false, true, false, false] = true := by decide +kernel
theorem test_mov_rrx :
    gives (exec (.movShift .al true 0#4 0#4 0#5 .ror 2#4) (carry (armState 0 2#32 0))) 0x80000001#32
    [true, false, false, false] = true := by decide +kernel
theorem test_bic : gives (exec (.bicImm .al false 1#4 0#4 0#4 0x0F#8) (armState 0xFF#32 0 0)) 0xF0#32
    [false, false, false, false] = true := by decide +kernel
theorem test_mvn_asr_32 : gives (exec (.mvnShift .al true 0#4 0#4 0#5 .asr 2#4) (armState 0 0x80000000#32 0)) 0#32
    [false, true, true, false] = true := by decide +kernel
theorem test_pc_12_ahead : gives (exec (.addReg .al false 15#4 0#4 3#4 .lsl 2#4) (armState 0 0 0)) 0x800C#32
    [false, false, false, false] = true := by decide +kernel
theorem test_condition_fails : nextHas (exec (.movImm .eq true 0#4 0#4 0#4 1#8) (armState 0 0 0))
    (fun t => t.getReg .r0 == 0#32 && t.pc == 0x8004#32) = true := by decide +kernel
theorem test_teqp_user_does_nothing : nextHas (exec (.teqImm .al 1#4 15#4 0#4 0#8) (inMode (armState 0 0 0) modeUsr))
    (fun t => t.cpsr == { State.reset.cpsr with m := modeUsr } && t.pc == 0x8004#32) = true := by decide +kernel

/-! ### Status registers (42) -/

theorem test_psr_word :
    Psr.toWord ⟨true, false, true, false, true, true, false, modeSvc⟩ 0#20 = 0xA00000D3#32 := by decide +kernel
theorem test_mrs_completes :
    nextHas (exec (.mrs .al true 0#4) (armState 0 0 0)) (fun t => t.pc == 0x8004#32) = true := by decide +kernel
theorem test_mrs_user_spsr_stops :
    faultIs (exec (.mrs .al true 0#4) (inMode (armState 0 0 0) modeUsr)) .noSpsr = true := by decide +kernel
theorem test_msr_changes_mode : nextHas (exec (.msrReg .al false 1#4) (armState 0x60000012#32 0 0))
    (fun t => t.cpsr == ⟨false, true, true, false, false, false, false, modeIrq⟩) = true := by decide +kernel
theorem test_msr_user_writes_flags :
    nextHas (exec (.msrReg .al false 1#4) (inMode (armState 0x60000012#32 0 0) modeUsr))
    (fun t => t.cpsr == ⟨false, true, true, false, true, true, false, modeUsr⟩) = true := by decide +kernel
theorem test_msr_flags_keeps_control : nextHas (exec (.msrFlagsReg .al false 1#4) (armState 0x90000010#32 0 0))
    (fun t => t.cpsr == ⟨true, false, false, true, true, true, false, modeSvc⟩) = true := by decide +kernel
theorem test_msr_flags_imm_spsr : nextHas (exec (.msrFlagsImm .al true 2#4 0xF#8) (armState 0 0 0))
    (fun t => t.spsrs.svc == ⟨true, true, true, true, false, false, false, 0#5⟩ && t.cpsr == State.reset.cpsr) = true := by
  decide +kernel

/-! ### Multiplies (43) -/

theorem test_mul : gives (exec (.mul .al false 0#4 0#4 2#4 1#4) (armState 0xFFFFFFFF#32 7#32 0)) 0xFFFFFFF9#32
    [false, false, false, false] = true := by decide +kernel
theorem test_mla : gives (exec (.mla .al false 0#4 3#4 2#4 1#4) (armState 6#32 7#32 8#32)) 50#32
    [false, false, false, false] = true := by decide +kernel
theorem test_umull : nextHas (exec (.umull .al false 0#4 3#4 2#4 1#4) (armState 0xFFFFFFFF#32 0xFFFFFFFF#32 0))
    (fun t => t.getReg .r0 == 0xFFFFFFFE#32 && t.getReg .r3 == 1#32) = true := by decide +kernel
theorem test_umlal : nextHas (exec (.umlal .al false 0#4 3#4 2#4 1#4) (armState 2#32 3#32 0xFFFFFFFF#32))
    (fun t => t.getReg .r0 == 1#32 && t.getReg .r3 == 5#32) = true := by decide +kernel
theorem test_smull : nextHas (exec (.smull .al true 0#4 3#4 2#4 1#4) (armState 0xFFFFFFFF#32 2#32 0))
    (fun t => t.getReg .r0 == 0xFFFFFFFF#32 && t.getReg .r3 == 0xFFFFFFFE#32 && t.cpsr.n && !t.cpsr.z) = true := by
  decide +kernel
theorem test_smlal : nextHas (exec (.smlal .al false 0#4 3#4 2#4 1#4) (armState 0xFFFFFFFF#32 2#32 1#32))
    (fun t => t.getReg .r0 == 0xFFFFFFFF#32 && t.getReg .r3 == 0xFFFFFFFF#32) = true := by decide +kernel

/-! ### Branches (40, 47 R352, 49) -/

theorem test_b_to_itself :
    nextHas (exec (.b .al 0xFFFFFE#24) (armState 0 0 0)) (fun t => t.pc == 0x8000#32) = true := by decide +kernel
theorem test_bl_links : nextHas (exec (.bl .al 0#24) (armState 0 0 0))
    (fun t => t.pc == 0x8008#32 && t.getReg .r14Svc == 0x8004#32) = true := by decide +kernel
theorem test_bx_to_thumb : nextHas (exec (.bx .al 1#4) (armState 0x9003#32 0 0))
    (fun t => t.pc == 0x9002#32 && t.cpsr.t) = true := by decide +kernel
theorem test_thumb_bx_pc : nextHas (exec (.tBxHi 7#3 0#3) (thumbState 0 0 0))
    (fun t => t.pc == 0x8004#32 && !t.cpsr.t) = true := by decide +kernel
theorem test_thumb_bx_to_arm : nextHas (exec (.tBxLo 1#3 0#3) (thumbState 0x9002#32 0 0))
    (fun t => t.pc == 0x9000#32 && !t.cpsr.t) = true := by decide +kernel
theorem test_thumb_bne_back :
    nextHas (exec (.tBne 0xFE#8) (thumbState 0 0 0)) (fun t => t.pc == 0x8000#32) = true := by decide +kernel
theorem test_thumb_beq_falls :
    nextHas (exec (.tBeq 0xFE#8) (thumbState 0 0 0)) (fun t => t.pc == 0x8002#32) = true := by decide +kernel
theorem test_thumb_b :
    nextHas (exec (.tB 0x400#11) (thumbState 0 0 0)) (fun t => t.pc == 0x7804#32) = true := by decide +kernel
theorem test_thumb_bl_high : nextHas (exec (.tBlHigh 0x7FF#11) (thumbState 0 0 0))
    (fun t => t.getReg .r14Svc == 0x7004#32 && t.pc == 0x8002#32) = true := by decide +kernel
theorem test_thumb_bl_low : nextHas (exec (.tBlLow 2#11) ((thumbState 0 0 0).setReg .r14Svc 0x9000#32))
    (fun t => t.pc == 0x9004#32 && t.getReg .r14Svc == 0x8003#32) = true := by decide +kernel

/-! ### Single transfers (44, 48, 20) -/

theorem test_ldr_rotates :
    gives (exec (.ldrImmPre .al true false 1#4 0#4 1#12) (withData (armState 0x100#32 0 0))) 0x11843322#32
    [false, false, false, false] = true := by decide +kernel
theorem test_ldr_post_writes_back :
    nextHas (exec (.ldrImmPost .al false 1#4 0#4 4#12) (withData (armState 0x100#32 0 0)))
    (fun t => t.getReg .r0 == 0x84332211#32 && t.getReg .r1 == 0xFC#32) = true := by decide +kernel
theorem test_ldr_shifted_offset :
    nextHas (exec (.ldrRegPre .al true true 1#4 0#4 4#5 .lsl 2#4) (withData (armState 0xE0#32 2#32 0)))
    (fun t => t.getReg .r0 == 0x84332211#32 && t.getReg .r1 == 0x100#32) = true := by decide +kernel
theorem test_ldrt_is_user_access : nextHas (exec (.ldrtImm .al true 1#4 0#4 4#12) (withData (armState 0x100#32 0 0)))
    (fun t => t.bus.all (fun c => !c.priv) && t.getReg .r0 == 0x84332211#32) = true := by decide +kernel
theorem test_ldrb : gives (exec (.ldrbImmPre .al true false 1#4 0#4 3#12) (withData (armState 0x100#32 0 0))) 0x84#32
    [false, false, false, false] = true := by decide +kernel
theorem test_ldrh :
    gives (exec (.ldrhImm .al true true false 1#4 0#4 2#8) (withData (armState 0x100#32 0 0))) 0x8433#32
    [false, false, false, false] = true := by decide +kernel
theorem test_ldrsb :
    gives (exec (.ldrsbImm .al true true false 1#4 0#4 3#8) (withData (armState 0x100#32 0 0))) 0xFFFFFF84#32
    [false, false, false, false] = true := by decide +kernel
theorem test_ldrsh :
    gives (exec (.ldrshReg .al true true false 1#4 0#4 2#4) (withData (armState 0x100#32 2#32 0))) 0xFFFF8433#32
    [false, false, false, false] = true := by decide +kernel
theorem test_str_pre : nextHas (exec (.strImmPre .al true true 1#4 2#4 8#12) (armState 0x100#32 0xA1B2C3D4#32 0))
    (fun t => t.mem == [(0x108, 0xD4#8), (0x109, 0xC3#8), (0x10A, 0xB2#8), (0x10B, 0xA1#8)] && t.getReg .r1 == 0x108#32) = true := by
  decide +kernel
theorem test_str_pc_12_ahead : nextHas (exec (.strImmPost .al true 1#4 15#4 4#12) (armState 0x100#32 0 0))
    (fun t => Memory.wordAt false t.mem 0x100#32 == 0x800C#32) = true := by decide +kernel
theorem test_strb : nextHas (exec (.strbRegPost .al true 1#4 2#4 0#5 .lsl 3#4) (armState 0x100#32 0xA1B2C3D4#32 1#32))
    (fun t => t.mem == [(0x100, 0xD4#8)] && t.getReg .r1 == 0x101#32) = true := by decide +kernel
theorem test_strh_big_endian : nextHas (exec (.strhImm .al true true false 1#4 2#4 2#8)
      { armState 0x100#32 0xA1B2C3D4#32 0 with pins := { State.reset.pins with bigend := true } })
    (fun t => t.mem == [(0x102, 0xC3#8), (0x103, 0xD4#8)]) = true := by decide +kernel
theorem test_strh_odd_stops :
    faultIs (exec (.strhImm .al true true false 1#4 2#4 1#8) (armState 0x100#32 0 0)) .oddHalfwordStore = true := by
  decide +kernel
theorem test_ldr_abort_keeps_write_back :
    nextHas (exec (.ldrImmPost .al true 1#4 0#4 4#12) (aborting (armState 0x100#32 0 0)))
    (fun t => t.pc == 0x10#32 && t.cpsr.m == modeAbt && t.getReg .r14Abt == 0x8008#32 && t.getReg .r1 == 0x104#32) = true := by
  decide +kernel
theorem test_thumb_ldr_pc :
    gives (exec (.tLdrPc 0#3 1#8) { thumbState 0 0 0 with pc := 0xFA#32, mem := [(0x100, 0x11#8)] }) 0x11#32
    [false, false, false, false] = true := by decide +kernel
theorem test_thumb_str_imm :
    nextHas (exec (.tStrImm 2#5 1#3 2#3) (thumbState 0x100#32 0x55#32 0)) (fun t => t.mem == [(0x108, 0x55#8)]) = true := by
  decide +kernel
theorem test_thumb_ldsh : gives (exec (.tLdshReg 2#3 1#3 0#3) (withData (thumbState 0x100#32 2#32 0))) 0xFFFF8433#32
    [false, false, false, false] = true := by decide +kernel

/-! ### Block transfers and swap (45, 48) -/

theorem test_stmdb_order :
    nextHas (exec (.stm .al true false false true 1#4 0b1100#16) (armState 0x108#32 0xAA#32 0xBB#32))
    (fun t => t.mem == [(0x100, 0xAA#8), (0x104, 0xBB#8)] && t.getReg .r1 == 0x100#32) = true := by decide +kernel
theorem test_stm_base_not_first :
    nextHas (exec (.stm .al false true false true 2#4 0b110#16) (armState 0x55#32 0x100#32 0))
    (fun t => Memory.wordAt false t.mem 0x104#32 == 0x108#32 && t.getReg .r2 == 0x108#32) = true := by decide +kernel
theorem test_ldmia_base_loaded :
    nextHas (exec (.ldm .al false true false true 1#4 0b11#16) (withData (armState 0x100#32 0 0)))
    (fun t => t.getReg .r0 == 0x84332211#32 && t.getReg .r1 == 0#32) = true := by decide +kernel
theorem test_ldm_pc_restores_cpsr : nextHas (exec (.ldm .al false true true false 1#4 0x8000#16)
      { withData (armState 0x100#32 0 0) with spsrs := { State.reset.spsrs with svc := { Psr.zero with t := true, m := modeUsr } } })
    (fun t => t.pc == 0x84332210#32 && t.cpsr == { Psr.zero with t := true, m := modeUsr }) = true := by
  decide +kernel
theorem test_swp : nextHas (exec (.swp .al 1#4 2#4 2#4) (withData (armState 0x101#32 0x7#32 0)))
    (fun t => t.getReg .r2 == 0x11843322#32 && t.mem == [(0x100, 7#8)]) = true := by decide +kernel
theorem test_swpb : nextHas (exec (.swpb .al 1#4 0#4 2#4) (withData (armState 0x103#32 0x17#32 0)))
    (fun t => t.getReg .r0 == 0x84#32 && Memory.get t.mem 0x103 == 0x17#8 && t.bus.all (fun c => c.lock)) = true := by
  decide +kernel
theorem test_push_lr :
    nextHas (exec (.tPushLr 0b10#8) (((thumbState 0x21#32 0 0).setReg .r13Svc 0x100#32).setReg .r14Svc 0x43#32))
    (fun t => t.mem == [(0xF8, 0x21#8), (0xFC, 0x43#8)] && t.getReg .r13Svc == 0xF8#32) = true := by decide +kernel
theorem test_pop_pc : nextHas (exec (.tPopPc 0#8) ((withData (thumbState 0 0 0)).setReg .r13Svc 0x100#32))
    (fun t => t.pc == 0x84332210#32 && t.cpsr.t && t.getReg .r13Svc == 0x104#32) = true := by decide +kernel

/-! ### Exceptions and coprocessors (46, 60, 61) -/

theorem test_swi : nextHas (exec (.swi .al 5#24) (inMode (armState 0 0 0) modeUsr))
    (fun t => t.pc == 8#32 && t.cpsr.m == modeSvc && t.getReg .r14Svc == 0x8004#32 && t.spsrs.svc.m == modeUsr) = true := by
  decide +kernel
theorem test_thumb_swi : nextHas (exec (.tSwi 5#8) (thumbState 0 0 0))
    (fun t => t.pc == 8#32 && !t.cpsr.t && t.getReg .r14Svc == 0x8002#32 && t.spsrs.svc.t) = true := by decide +kernel
theorem test_undef : nextHas (exec (.undef .al 0#20 0#4) (armState 0 0 0))
    (fun t => t.pc == 4#32 && t.cpsr.m == modeUnd && t.getReg .r14Und == 0x8004#32) = true := by decide +kernel
theorem test_mrc_flags :
    nextHas (exec (.mrc .al 0#3 0#4 15#4 1#4 0#3 0#4) (withCoproc (armState 0 0 0) (.ready 0x90000000#32 [])))
    (fun t => nzcv t == [true, false, false, true]) = true := by decide +kernel
theorem test_mcr_absent_traps :
    nextHas (exec (.mcr .al 0#3 0#4 0#4 2#4 0#3 0#4) (armState 0 0 0)) (fun t => t.pc == 4#32) = true := by
  decide +kernel
theorem test_ldc_two_words : nextHas (exec (.ldc .al true true false true 1#4 0#4 1#4 1#8)
      (withCoproc (withData (armState 0xFC#32 0 0)) (.ready 0 [0])))
    (fun t => t.cpLog == [.load 1#4 0#4 false [0x84332211#32, 0#32]] && t.getReg .r1 == 0x100#32) = true := by
  decide +kernel
theorem test_stc_one_word :
    nextHas (exec (.stc .al false true true true 1#4 0#4 1#4 2#8) (withCoproc (armState 0x100#32 0 0) (.ready 9#32 [])))
    (fun t => t.mem == [(0x100, 9#8)] && t.getReg .r1 == 0x108#32) = true := by decide +kernel
theorem test_cdp_told : nextHas (exec (.cdp .al 3#4 1#4 2#4 1#4 5#3 4#4) (withCoproc (armState 0 0 0) (.ready 0 [])))
    (fun t => t.cpLog == [.operation 1#4 3#4 1#4 2#4 5#3 4#4] && t.pc == 0x8004#32) = true := by decide +kernel

/-! ### THUMB register operations (47) -/

theorem test_thumb_lsr_32 : gives (exec (.tLsrImm 0#5 1#3 0#3) (thumbState 0x80000000#32 0 0)) 0#32
    [false, true, true, false] = true := by decide +kernel
theorem test_thumb_sub_reg : gives (exec (.tSubReg 2#3 1#3 0#3) (thumbState 5#32 7#32 0)) 0xFFFFFFFE#32
    [true, false, false, false] = true := by decide +kernel
theorem test_thumb_cmp_imm : gives (exec (.tCmpImm 1#3 200#8) (thumbState 200#32 0 0)) 0#32
    [false, true, true, false] = true := by decide +kernel
theorem test_thumb_neg : gives (exec (.tNeg 1#3 0#3) (thumbState 1#32 0 0)) 0xFFFFFFFF#32
    [true, false, false, false] = true := by decide +kernel
theorem test_thumb_asr_reg : nextHas (exec (.tAsrReg 1#3 2#3) (thumbState 40#32 0x80000000#32 0))
    (fun t => t.getReg .r2 == 0xFFFFFFFF#32 && nzcv t == [true, false, true, false]) = true := by decide +kernel
theorem test_thumb_mul : nextHas (exec (.tMul 1#3 2#3) (thumbState 6#32 7#32 0))
    (fun t => t.getReg .r2 == 42#32 && !t.cpsr.n && !t.cpsr.z) = true := by decide +kernel
theorem test_thumb_add_hi_pc : gives (exec (.tAddLoHi 7#3 0#3) (thumbState 0 0 0)) 0x8004#32
    [false, false, false, false] = true := by decide +kernel
theorem test_thumb_mov_to_pc : nextHas (exec (.tMovHiLo 1#3 7#3) (thumbState 0x9001#32 0 0))
    (fun t => t.pc == 0x9000#32 && t.cpsr.t) = true := by decide +kernel
theorem test_thumb_add_pc : gives (exec (.tAddPc 0#3 1#8) { thumbState 0 0 0 with pc := 0x8002#32 }) 0x8008#32
    [false, false, false, false] = true := by decide +kernel
theorem test_thumb_sub_sp : nextHas (exec (.tAddSpNeg 2#7) ((thumbState 0 0 0).setReg .r13Svc 0x100#32))
    (fun t => t.getReg .r13Svc == 0xF8#32) = true := by decide +kernel

/-! ### Steps (60 R436) -/

theorem test_first_instruction : nextHas (step (State.reset.withFetchWord 32 0xE3A01005))
    (fun t => t.getReg .r1 == 5#32 && t.pc == 4#32) = true := by decide +kernel
theorem test_first_thumb_instruction : nextHas (step (State.reset.withFetchWord 16 0x2105))
    (fun t => t.getReg .r1 == 5#32 && t.pc == 2#32 && t.cpsr.t) = true := by decide +kernel
theorem test_irq : nextHas (step { armState 0 0 0 with
      cpsr := { State.reset.cpsr with i := false }, env := [{ Inputs.inactive with nIRQ := false }] })
    (fun t => t.pc == 0x18#32 && t.cpsr.m == modeIrq && t.getReg .r14Irq == 0x8004#32 && t.cpsr.i) = true := by
  decide +kernel
theorem test_prefetch_abort : nextHas (step (aborting (thumbState 0 0 0)))
    (fun t => t.pc == 0x0C#32 && t.getReg .r14Abt == 0x8004#32 && t.spsrs.abt.t) = true := by decide +kernel
theorem test_reserved_condition :
    refusedIs (step (State.reset.withFetchWord 32 0xF0000000)) .reservedCondition = true := by decide +kernel

/-- An illegal mode is stuck, and reset recovers it (10 R39). -/
theorem test_stuck_until_reset :
    (nextHas (step (inMode (armState 0 0 0) 0#5)) (fun t => t.pc == 0x8000#32 && t.cpsr.m == 0#5) &&
      nextHas (step { inMode (armState 0 0 0) 0#5 with resetCycles := 2 }) (fun t => t.pc == 0#32 && t.cpsr.m == modeSvc)) = true := by
  decide +kernel
/-- The prefetch-abort mark stays with the fetched instruction when the abort predicate changes (10 R45, R46). -/
theorem test_abort_mark_kept : nextHas (step { armState 0 0 0 with pipe := [⟨0xE3A01005#32, true, false⟩] })
    (fun t => t.pc == 0x0C#32 && t.getReg .r14Abt == 0x8004#32) = true := by decide +kernel
/-- An instruction's first cycle is the fetch two ahead, and a branch refills from its target (70 R546, 20 R89). -/
theorem test_fetches_on_the_bus : nextHas (step { armState 0 0 0 with
      mem := [(0x9001, 0xAA#8)], pipe := [⟨0xEA0003FE#32, false, false⟩, ⟨0#32, false, false⟩] })
    (fun t => t.pc == 0x9000#32 && t.pipe.map (fun q => q.opcode) == [0xAA00#32, 0#32] &&
      t.bus.map (fun c => (c.fetch, c.seq, c.data)) == [(true, true, 0#32), (true, false, 0xAA00#32), (true, true, 0#32)]) = true := by
  decide +kernel
/-- The User-bank hazard outlasts a busy coprocessor, and ends with the next instruction (70 R532). -/
theorem test_hazard_across_busy_wait :
    (nextHas (exec (.ldm .al false true true false 1#4 0x2000#16) (armState 0x100#32 0 0)) (fun t => t.hazard) &&
      nextHas (exec (.mcr .al 0#3 0#4 13#4 1#4 0#3 0#4) { withCoproc (armState 0 0 0) .busy with hazard := true }) (fun t => t.hazard) &&
      nextHas (exec (.movImm .al false 0#4 0#4 0#4 1#8) { armState 0 0 0 with hazard := true }) (fun t => !t.hazard)) = true := by
  decide +kernel
/-- While nTRST is LOW the debugger's command does nothing (log 70). -/
theorem test_ntrst_holds_the_tap : nextHas (step { armState 0 0 0 with
      pins := { State.reset.pins with dbgen := true },
      dbg := { Debug.reset with active := true, scanSelect := 1#4, tapIr := 0b1100#4 },
      env := [{ Inputs.inactive with nTRST := false, dbg := .scan false 0xE3A01005#32 [] }] })
    (fun t => t.getReg .r1 == 0#32 && t.pc == 0x8000#32 && t.dbg.active && t.dbg.tapIr == 0b1110#4) = true := by
  decide +kernel
/-- The fetch after an MCR is non-sequential (70 R545, 90 C14). -/
theorem test_mcr_then_non_sequential :
    (nextHas (exec (.mcr .al 0#3 0#4 1#4 1#4 0#3 0#4) (withCoproc (armState 0 0 0) (.ready 0 []))) (fun t => t.nonSeq) &&
      nextHas (step { armState 0 0 0 with nonSeq := true, pipe := [⟨0xE3A01005#32, false, false⟩, ⟨0#32, false, false⟩] })
        (fun t => t.bus.map (fun c => (c.fetch, c.seq)) == [(true, false)] && !t.nonSeq)) = true := by decide +kernel
/-- A data abort: the read, the entry's own fetch in the old mode, and the two fetches at the vector (70 R546). -/
theorem test_data_abort_fetches : nextHas (step { armState 0x100#32 0 0 with
      pins := { State.reset.pins with abortMap := [⟨0x100, 0x103, true, true, true, true, true, true, true, true, true⟩] },
      pipe := [⟨0xE5910000#32, false, false⟩, ⟨0#32, false, false⟩] })
    (fun t => t.pc == 0x10#32 && t.bus.map (fun c => (c.fetch, c.seq, c.nM)) ==
      [(true, true, 0b01100#5), (false, false, 0b01100#5), (true, true, 0b01100#5), (true, false, 0b01000#5),
        (true, true, 0b01000#5)]) = true := by decide +kernel
/-- CHAINOUT stays clear in a step with nTRST LOW (61 R484, R503). -/
theorem test_ntrst_holds_chainout_clear : nextHas (step { armState 0 0 0 with
      pins := { State.reset.pins with dbgen := true }, pipe := [⟨0xE3A01005#32, false, false⟩],
      dbg := { Debug.reset with chainOut := true }, env := [{ Inputs.inactive with nTRST := false }] })
    (fun t => t.getReg .r1 == 5#32 && !t.dbg.chainOut && t.dbg.scanSelect == 3#4) = true := by decide +kernel
/-- An LDM that restores an illegal mode stays stuck with its access watched and an interrupt pending (10 R39, U2). -/
theorem test_illegal_mode_takes_no_interrupt : nextHas (step { armState 0x100#32 0 0 with
      pins := { State.reset.pins with dbgen := true }, pipe := [⟨0xE8D18000#32, false, false⟩],
      env := [{ Inputs.inactive with breakpt := [false, false, true], nFIQEnd := false, nIRQEnd := false }] })
    (fun t => t.cpsr.m == 0#5 && t.pc == 0#32 && !t.dbg.active) = true := by decide +kernel
/-- TST with Rd = 15 may be scanned in, TEQP may not (61 R493). -/
theorem test_debug_use_of_p_forms :
    debugUse (.tstImm .al 1#4 15#4 0#4 1#8) = .compute ∧ debugUse (.teqImm .al 1#4 15#4 0#4 1#8) = .illegal := by
  decide +kernel
/-- An IRQ that breaks off a busy-wait: the entry's own fetch in the old mode, then the two at the vector (70 R546). -/
theorem test_interrupted_busy_wait : nextHas (step { armState 0 0 0 with
      cpsr := { State.reset.cpsr with i := false }, env := [{ Inputs.inactive with nIRQ := false, cop := .busy }],
      pipe := [⟨0xEE000110#32, false, false⟩, ⟨0#32, false, false⟩, ⟨0#32, false, false⟩] })
    (fun t => t.getReg .r14Irq == 0x8004#32 && t.bus.map (fun c => (c.seq, c.nM)) ==
      [(true, 0b01100#5), (false, 0b01101#5), (true, 0b01101#5)]) = true := by decide +kernel
/-- A watched store with an IRQ at its end: the entry's fetch after the write is non-sequential (70 R545). -/
theorem test_fetch_after_watched_store : nextHas (step { armState 0x100#32 7#32 0 with
      cpsr := { State.reset.cpsr with i := false }, pins := { State.reset.pins with dbgen := true },
      env := [{ Inputs.inactive with nIRQEnd := false, breakpt := [false, true] }],
      pipe := [⟨0xE5812000#32, false, false⟩, ⟨0#32, false, false⟩] })
    (fun t => t.dbg.active && t.bus.map (fun c => (c.fetch, c.seq)) ==
      [(true, true), (false, false), (true, false), (true, false), (true, true)]) = true := by decide +kernel

/-! ### Witnesses: for every statement with hypotheses, a state and operands that meet them, clause by clause -/

/-- An ARM instruction whose condition passes. -/
theorem passes_of {i : Instr} {s : State} (c : Cond) (h : i.cond? = some c) (hc : condPassed c s.cpsr = true) :
    i.passes s := by
  intro d hd
  rw [h] at hd
  cases hd
  exact hc

/-- A THUMB instruction. -/
theorem passes_thumb {i : Instr} {s : State} (h : i.cond? = none) : i.passes s := by
  intro d hd
  rw [h] at hd
  cases hd

theorem test_witness_EncodeOfDecode :
    decode (.arm 0xEFFFFFFF#32) = .ok (.swi .al 0xFFFFFF#24) ∧ decode (.thumb 0xFFFF#16) = .ok (.tBlLow 0x7FF#11) := by
  decide +kernel

theorem test_witness_WordsWithoutInstruction :
    (0xFFFFFFFF#32 : BitVec 32).extractLsb' 28 4 = 15#4 ∧ (0xEFFFFFFF#32 : BitVec 32).extractLsb' 28 4 ≠ 15#4 ∧
    unallocatedArm 0xEFFFFFFF#32 = false ∧ (0xE00000D0#32 : BitVec 32).extractLsb' 28 4 ≠ 15#4 ∧
    unallocatedArm 0xE00000D0#32 = true := by
  decide +kernel

theorem test_witness_ConditionField :
    Instr.cond? (.b .eq 0#24) = some .eq ∧ condPassed .eq (armState 0 0 0).cpsr = false ∧ (armState 0 0 0).cpsr.t = false := by
  decide +kernel

theorem test_witness_WellFormedRuns :
    Instr.wf (.movImm .al false 0#4 15#4 0#4 0#8) = true ∧ Instr.wf (.ldm .al true true false true 14#4 0xFFFF#16) = true ∧
    Instr.wf (.tPushLr 0#8) = true := by
  decide +kernel

/-- Each of the five faults of a well-formed instruction is reached. -/
theorem test_faults_reached :
    faultIs (exec (.msrReg .al false 1#4) (armState 0x33#32 0 0)) .stateBitChanged = true ∧
    faultIs (exec (.movShift .al true 0#4 15#4 0#5 .lsl 14#4) (inMode (armState 0 0 0) modeSys)) .noSpsr = true ∧
    faultIs (exec (.tStrhImm 0#5 1#3 2#3) (thumbState 0x101#32 0 0)) .oddHalfwordStore = true ∧
    faultIs (exec (.ldm .al false true true false 1#4 1#16) (inMode (armState 0 0 0) modeUsr)) .userBankInUserMode = true ∧
    faultIs (exec (.tBxHi 7#3 0#3) { thumbState 0 0 0 with pc := 0x8002#32 }) .bxPcMisaligned = true := by
  decide +kernel

theorem test_witness_ExcludedFormsRefused :
    Instr.wf (.bx .al 15#4) = false ∧ Instr.passes (.bx .al 15#4) (armState 0 0 0) ∧
    Instr.wf (.tPop 0#8) = false ∧ Instr.passes (.tPop 0#8) (thumbState 0 0 0) :=
  ⟨by decide, passes_of .al rfl rfl, by decide, passes_thumb rfl⟩

theorem test_witness_ExcludedHiFormsStop :
    (0x4400 ≤ (0x4400#16).toNat ∧ (0x443F#16).toNat ≤ 0x443F) ∧ (0x4500 ≤ (0x4500#16).toNat ∧ (0x453F#16).toNat ≤ 0x453F) ∧
    (0x4600 ≤ (0x4600#16).toNat ∧ (0x463F#16).toNat ≤ 0x463F) ∧ (0x4780 ≤ (0x4780#16).toNat ∧ (0x47FF#16).toNat ≤ 0x47FF) := by
  simp

/-- Every access to one word is aborted. -/
def abortsAt (s : State) (a : Nat) : State :=
  { s with pins := { s.pins with abortMap := [⟨a, a + 3, true, true, true, true, true, true, true, true, true⟩] } }

/-- MOV R1, #5 and its THUMB form, to be fetched at address 0, and the ARM form already in the queue; and LDR R0, [R1] whose
access is aborted. -/
theorem test_witness_StepRunsDecodedInstruction :
    (∀ s ∈ [State.reset.withFetchWord 32 0xE3A01005],
      s.pins.dbgen = false ∧ s.running ∧ s.quiet ∧ (s.beginStep.slot 0).aborted = false ∧ s.cpsr.t = false ∧
      decodeArm (s.beginStep.slot 0).opcode = .ok (.movImm .al false 0#4 1#4 0#4 5#8)) ∧
    (∀ s ∈ [State.reset.withFetchWord 16 0x2105],
      s.pins.dbgen = false ∧ s.running ∧ s.quiet ∧ (s.beginStep.slot 0).aborted = false ∧ s.cpsr.t = true ∧
      decodeThumb ((s.beginStep.slot 0).opcode.extractLsb' 0 16) = .ok (.tMovImm 1#3 5#8)) ∧
    (∀ s ∈ [{ armState 0 0 0 with pipe := [⟨0xE3A01005#32, false, false⟩, ⟨0#32, true, false⟩] }],
      s.pins.dbgen = false ∧ s.running ∧ s.quiet ∧ (s.beginStep.slot 0).aborted = false ∧ s.cpsr.t = false ∧
      decodeArm (s.beginStep.slot 0).opcode = .ok (.movImm .al false 0#4 1#4 0#4 5#8) ∧ s.pipe.length ≤ 3) ∧
    (∀ s ∈ [abortsAt { armState 0x100#32 0 0 with pipe := [⟨0xE5910000#32, false, false⟩] } 0x100],
      s.pins.dbgen = false ∧ s.running ∧ s.quiet ∧ (s.beginStep.slot 0).aborted = false ∧
      decodeArm (s.beginStep.slot 0).opcode = .ok (.ldrImmPre .al true false 1#4 0#4 0#12) ∧
      nextHas (exec (.ldrImmPre .al true false 1#4 0#4 0#12) (s.beginStep.fillPipe 3))
        (fun t => t.bus.any fun c => !c.fetch && c.aborted) = true) := by
  refine ⟨?_, ?_, ?_, ?_⟩ <;> (try unfold State.running) <;> (try unfold State.quiet) <;>
    (try unfold State.tapIdle) <;> decide +kernel

/-- The debug hardware enabled. -/
def debugOn (s : State) : State := { s with pins := { s.pins with dbgen := true } }

/-- A word load on the bus at 0x100, with BREAKPT as given. -/
def aLoad (breakpt aborted : Bool) : BusCycle :=
  ⟨0x100#32, .word, false, false, true, false, false, 0b01100#5, false, false, 7#32, aborted, breakpt, 3⟩

/-- The debug hardware enabled, and a data cycle at the end of an instruction. -/
def accessed (s : State) (breakpt aborted : Bool) : State := { debugOn s with bus := [aLoad breakpt aborted] }

/-- Watchpoint unit 1 with every address, data and control bit masked. -/
def watchAll (s : State) : State :=
  { s with dbg := { s.dbg with wp1 := ⟨0, 0xFFFFFFFF#32, 0, 0xFFFFFFFF#32, 0x100#9, 0xFF#8⟩ } }

theorem matchesField_masked {n : Nat} (v m x : BitVec n) (h : ∀ k < n, m.getLsbD k = true) : matchesField v m x :=
  fun k hk => .inl (h k hk)

/-- LDR R0, [R1] to be fetched, and in the queue; a matched data cycle and an unmatched one; and for the watchpoint units a
cycle whose address does not match and one that unit 1 matches. -/
theorem test_witness_StepWatchesDataAccesses :
    (∀ s ∈ [debugOn (State.reset.withFetchWord 32 0xE5910000)],
      s.pins.dbgen = true ∧ s.running ∧ s.quiet ∧ (s.beginStep.slot 0).aborted = false ∧
      (s.beginStep.slot 0).breakpoint = false ∧ s.pipe = [] ∧ s.dbg.wp0.ctrlValue.getLsbD 8 = false ∧
      s.dbg.wp1.ctrlValue.getLsbD 8 = false ∧ (s.env.headD Inputs.inactive).breakpt.getD 0 false = false ∧
      decodeArm (s.beginStep.slot 0).opcode = .ok (.ldrImmPre .al true false 1#4 0#4 0#12)) ∧
    (∀ s ∈ [{ debugOn (armState 0 0 0) with pipe := [⟨0xE5910000#32, false, false⟩] }],
      s.pins.dbgen = true ∧ s.running ∧ s.quiet ∧ (s.beginStep.slot 0).aborted = false ∧
      (s.beginStep.slot 0).breakpoint = false ∧ s.pipe ≠ [] ∧
      decodeArm (s.beginStep.slot 0).opcode = .ok (.ldrImmPre .al true false 1#4 0#4 0#12)) ∧
    (debugOn (armState 0 0 0)).bus.filter (fun c => !c.fetch) = [] ∧
    ((accessed (armState 0 0 0) false false).iceCycles [aLoad false false]).1 = false ∧
    ((accessed (armState 0 0 0) true false).iceCycles [aLoad true false]).1 = true ∧
    ((accessed (armState 0 0 0) false true).iceCycles [aLoad false true]).1 = false ∧
    legalMode (armState 0 0 0).cpsr.m = true ∧ legalMode (inMode (armState 0 0 0) 0#5).cpsr.m = false := by
  refine ⟨?_, ?_, ?_, ?_, ?_, ?_, ?_, ?_⟩ <;> (try unfold State.running) <;> (try unfold State.quiet) <;>
    (try unfold State.tapIdle) <;> decide +kernel

theorem test_witness_watchpoint_units :
    ((accessed (armState 0 0 0) false false).inp.nTRST = true ∧
      ({ accessed (armState 0 0 0) false false with inp := { Inputs.inactive with nTRST := false } } : State).inp.nTRST = false) ∧
    ((accessed (armState 0 0 0) false false).pins.dbgen = true ∧
      ¬ (accessed (armState 0 0 0) false false).dbg.wp1.accessMatch (aLoad false false)) ∧
    ((watchAll (accessed (armState 0 0 0) false false)).pins.dbgen = true ∧
      (watchAll (accessed (armState 0 0 0) false false)).dbg.wp1.accessMatch (aLoad false false) ∧
      ∀ range chain extern : Bool,
        (watchAll (accessed (armState 0 0 0) false false)).dbg.wp1.unitMatch false (aLoad false false) range chain extern) := by
  refine ⟨⟨rfl, rfl⟩, ⟨rfl, fun h => ?_⟩, rfl, ⟨matchesField_masked _ _ _ ?_, matchesField_masked _ _ _ ?_⟩, fun r c e =>
    ⟨matchesField_masked _ _ _ ?_, matchesField_masked _ _ _ ?_, matchesField_masked _ _ _ ?_⟩⟩
  · have := h.1 8 (by decide)
    revert this
    decide +kernel
  all_goals decide +kernel

theorem test_witness_StepKeepsInvariant :
    (armState 0 0 0).Inv ∧ (∃ t : State, step (armState 0 0 0) = .next t) := by
  refine ⟨⟨rfl, by unfold State.pcAligned; decide +kernel, by decide +kernel⟩, ?_⟩
  have h : nextHas (step (armState 0 0 0)) (fun _ => true) = true := by decide +kernel
  revert h
  cases step (armState 0 0 0) with
  | next t => exact fun _ => ⟨t, rfl⟩
  | fault f => intro h; cases h
  | refused r => intro h; cases h

/-- nRESET LOW in the next step. -/
def resetLow (s : State) : State := { s with env := [{ Inputs.inactive with nRESET := false }] }

theorem test_witness_ResetSequence :
    (∀ s ∈ [{ armState 0 0 0 with resetCycles := 2 }],
      s.tapIdle ∧ (s.env.headD Inputs.inactive).nRESET = true ∧ 2 ≤ s.resetCycles) ∧
    (∀ s ∈ [debugOn { armState 0 0 0 with resetCycles := 1 }],
      s.tapIdle ∧ (s.env.headD Inputs.inactive).nRESET = true ∧ s.resetCycles = 1) ∧
    (∀ s ∈ [resetLow { armState 0x100#32 7#32 0 with pipe := [⟨0xE5812000#32, false, false⟩] }],
      s.tapIdle ∧ (s.pins.dbgen = true → s.dbg.active = false) ∧ Memory.wf s.mem = true ∧
      (s.env.headD Inputs.inactive).nRESET = false ∧ s.resetCycles = 0 ∧
      s.beginStep.decodeNext = .ok (.strImmPre .al true false 1#4 2#4 0#12) ∧
      nextHas (exec (.strImmPre .al true false 1#4 2#4 0#12) s.beginStep)
        (fun u => u.bus.map (fun c => (c.addr, c.write, c.aborted)) == [(0x100#32, true, false)]) = true) ∧
    (∀ s ∈ [resetLow (debugOn { armState 0 0 0 with dbg := { Debug.reset with active := true } })],
      s.tapIdle ∧ s.pins.dbgen = true ∧ s.dbg.active = true ∧ (s.env.headD Inputs.inactive).nRESET = false) ∧
    (∀ s ∈ [inMode (armState 0 0 0) 0#5],
      s.tapIdle ∧ (s.env.headD Inputs.inactive).nRESET = true ∧ s.resetCycles = 0 ∧ legalMode s.cpsr.m = false) := by
  refine ⟨?_, ?_, ?_, ?_, ?_⟩ <;> (try unfold State.tapIdle) <;> decide +kernel

theorem test_witness_RegisterBanks :
    (inMode (armState 0 0 0) modeSys).cpsr.m = modeSys ∧ (inMode (armState 0 0 0) modeUsr).cpsr.m = modeUsr ∧
    (0#4 : Reg).toNat < 8 ∧ (7#4 : Reg).toNat < 8 ∧ (8 ≤ (8#4 : Reg).toNat ∧ (8#4 : Reg).toNat < 13) ∧
    (8 ≤ (12#4 : Reg).toNat ∧ (12#4 : Reg).toNat < 13) ∧
    (∀ r : Reg, r ∈ [13#4, 14#4] → legalMode modeSys = true ∧ legalMode modeFiq = true ∧ (r = 13#4 ∨ r = 14#4) ∧
      modeSys ≠ modeFiq ∧ ¬ (modeSys ∈ [modeUsr, modeSys] ∧ modeFiq ∈ [modeUsr, modeSys])) := by
  decide +kernel

theorem test_witness_ExceptionEntryState :
    Exc.fiq = .fiq ∧ Exc.irq ≠ .fiq ∧ modeSvc ≠ Exc.irq.mode ∧
    (∀ p : Psr, (fun p : Psr => { p with m := modeSvc }) p = { p with m := modeSvc }) ∧
    (∀ p : Psr, ((fun p : Psr => { p with m := modeSvc }) p).m = modeSvc) :=
  ⟨rfl, by decide, by decide, fun _ => rfl, fun _ => rfl⟩

/-- Interrupts enabled, and a LOW nFIQ and nIRQ as given in the next step. -/
def interrupted (s : State) (f i nFIQ nIRQ : Bool) : State :=
  { s with cpsr := { s.cpsr with f := f, i := i }, env := [{ Inputs.inactive with nFIQ := nFIQ, nIRQ := nIRQ }] }

theorem test_witness_ExceptionsBetweenInstructions :
    (∀ s ∈ [interrupted (armState 0 0 0) false false false false],
      s.running ∧ s.pins.dbgen = false ∧ s.cpsr.f = false ∧ (s.env.headD Inputs.inactive).nFIQ = false) ∧
    (∀ s ∈ [{ interrupted (armState 0 0 0) true false true false with
        pipe := [⟨0#32, false, false⟩, ⟨0#32, false, false⟩, ⟨0#32, false, false⟩] }],
      s.running ∧ s.pins.dbgen = false ∧ s.cpsr.f = true ∧ s.cpsr.i = false ∧
      (s.env.headD Inputs.inactive).nIRQ = false ∧ max 1 (3 - s.pipe.length) = 1) ∧
    (∀ s ∈ [debugOn (interrupted (thumbState 0 0 0) false true false true)],
      s.running ∧ s.pins.dbgen = true ∧ s.dbg.intdis = false ∧ s.cpsr.f = false ∧
      (s.env.headD Inputs.inactive).nFIQ = false) ∧
    (∀ s ∈ [debugOn (interrupted (armState 0 0 0) true false false false)],
      s.running ∧ s.dbg.intdis = false ∧ (s.cpsr.f = true ∨ (s.env.headD Inputs.inactive).nFIQ = true) ∧
      s.cpsr.i = false ∧ (s.env.headD Inputs.inactive).nIRQ = false) ∧
    (∀ s ∈ [interrupted (aborting (thumbState 0 0 0)) true true false false],
      s.running ∧ s.quiet ∧ (s.beginStep.slot 0).aborted = true) ∧
    (∀ s ∈ [debugOn { interrupted (armState 0 0 0) false false false false with
        pipe := [⟨0#32, true, false⟩], dbg := { Debug.reset with intdis := true } }],
      s.running ∧ s.quiet ∧ (s.beginStep.slot 0).aborted = true) := by
  refine ⟨?_, ?_, ?_, ?_, ?_, ?_⟩ <;> (try unfold State.running) <;> (try unfold State.quiet) <;>
    (try unfold State.tapIdle) <;> decide +kernel

/-- The last word of the address space in ARM state, the last halfword in THUMB state. -/
theorem test_witness_ReturnResumesProgram :
    (∀ s ∈ [{ armState 0 0 0 with pc := 0xFFFFFFFC#32 }, { thumbState 0 0 0 with pc := 0xFFFFFFFE#32 }],
      alignPc s.cpsr.t s.pc = s.pc) ∧
    (∀ e ∈ [Exc.fiq, .irq, .prefetchAbort], e = .fiq ∨ e = .irq ∨ e = .prefetchAbort) ∧
    (∀ e ∈ [Exc.swi, .undefined], e = .swi ∨ e = .undefined) := by
  decide +kernel

/-- User mode with an instruction that goes on, and with one that takes an exception. -/
theorem test_witness_UserModeConfined :
    (inMode (armState 0 0 0) modeUsr).cpsr.m = modeUsr ∧ (inMode (armState 0 0 0) modeUsr).dbg.active = false ∧
    nextHas (exec (.msrReg .al false 1#4) (inMode (armState 0x600000D3#32 0 0) modeUsr)) (fun t => t.cpsr.m == modeUsr) = true ∧
    nextHas (exec (.swi .al 0#24) (inMode (armState 0 0 0) modeUsr)) (fun t => t.cpsr.m == modeSvc) = true := by
  decide +kernel

theorem test_witness_TrapInstructions :
    (armState 0 0 0).cpsr.t = false ∧ condPassed .al (armState 0 0 0).cpsr = true ∧ condPassed .ne (armState 0 0 0).cpsr = true ∧
    (thumbState 0 0 0).cpsr.t = true ∧ Instr.thumbUndefined (.tUndefCond 0#8) = true ∧
    Instr.thumbUndefined (.tUndefE8 0x7FF#11) = true := by
  decide +kernel

theorem test_witness_BarrelShifter :
    (1#8 : Byte) ≠ 0#8 ∧ (31#8 : Byte) ≠ 0#8 ∧ (32#8 : Byte) ≠ 0#8 ∧ (33#8 : Byte) ≠ 0#8 ∧ (255#8 : Byte) ≠ 0#8 ∧
    (1#5 : BitVec 5) ≠ 0#5 ∧ (31#5 : BitVec 5) ≠ 0#5 ∧ (1#4 : BitVec 4) ≠ 0#4 ∧ (15#4 : BitVec 4) ≠ 0#4 := by
  decide +kernel

theorem test_witness_OperandsReadThePc :
    (armState 0 0 0).cpsr.t = false ∧ (thumbState 0 0 0).cpsr.t = true ∧ (14#4 : Reg) ≠ 15#4 ∧
    (armState 0 0 0).hazard = false := by
  decide +kernel

/-- The three forms of operand 2, with R15 and with the highest other register as its register. -/
def someOp2 : List Op2 := [.imm 15#4 0xFF#8, .shift 0#5 .ror 15#4, .shift 31#5 .lsl 14#4, .reg 14#4 .asr 15#4, .reg 0#4 .ror 0#4]

theorem test_witness_LogicalOperations :
    ∀ op ∈ [AluOp.and, .eor, .orr, .mov, .bic, .mvn], ∀ o ∈ someOp2,
      (armState 1 2 3).cpsr.t = false ∧ op.isLogical = true ∧ condPassed .al (armState 1 2 3).cpsr = true ∧
      o.excluded = false ∧ (14#4 : Reg) ≠ 15#4 := by
  decide +kernel

theorem test_witness_ArithmeticOperations :
    ∀ op ∈ [AluOp.sub, .rsb, .add, .adc, .sbc, .rsc], ∀ o ∈ someOp2,
      (armState 1 2 3).cpsr.t = false ∧ op.isLogical = false ∧ condPassed .al (armState 1 2 3).cpsr = true ∧
      o.excluded = false ∧ (14#4 : Reg) ≠ 15#4 := by
  decide +kernel

theorem test_witness_ResultInPc :
    (∀ o ∈ someOp2, (armState 1 2 3).cpsr.t = false ∧ condPassed .al (armState 1 2 3).cpsr = true ∧ o.excluded = false) ∧
    (armState 1 2 3).spsr = some Psr.zero ∧ (inMode (armState 1 2 3) modeSys).spsr = none ∧
    (inMode (armState 1 2 3) modeUsr).spsr = none ∧ (inMode (armState 1 2 3) modeUsr).cpsr.t = false ∧
    condPassed .al (inMode (armState 1 2 3) modeUsr).cpsr = true := by
  decide +kernel

theorem test_witness_TestOperations :
    (∀ o ∈ someOp2, (armState 1 2 3).cpsr.t = false ∧ condPassed .al (armState 1 2 3).cpsr = true ∧ o.excluded = false) ∧
    (14#4 : Reg) ≠ 15#4 ∧ TestOp.tst.alu.isLogical = true ∧ TestOp.teq.alu.isLogical = true ∧
    TestOp.cmp.alu.isLogical = false ∧ TestOp.cmn.alu.isLogical = false := by
  decide +kernel

/-- Supervisor mode with an SPSR whose T bit is set. -/
def savedThumb : State :=
  { armState 1 2 3 with spsrs := { State.reset.spsrs with svc := { Psr.zero with t := true, m := modeUsr } } }

theorem test_witness_TestPForms :
    (∀ s ∈ [armState 1 2 3, savedThumb, inMode (armState 1 2 3) modeUsr, inMode (armState 1 2 3) modeSys],
      s.cpsr.t = false ∧ condPassed .al s.cpsr = true) ∧ (∀ o ∈ someOp2, o.excluded = false) ∧
    (inMode (armState 1 2 3) modeUsr).cpsr.m = modeUsr ∧ (inMode (armState 1 2 3) modeSys).cpsr.m = modeSys ∧
    ((armState 1 2 3).spsr = some Psr.zero ∧ Psr.zero.t = false) ∧
    (savedThumb.spsr = some { Psr.zero with t := true, m := modeUsr } ∧ ({ Psr.zero with t := true, m := modeUsr } : Psr).t = true) := by
  decide +kernel

theorem test_witness_MrsReadsPsr :
    (armState 0 0 0).cpsr.t = false ∧ condPassed .al (armState 0 0 0).cpsr = true ∧ (14#4 : Reg) ≠ 15#4 ∧
    (armState 0 0 0).spsr = some Psr.zero ∧ (inMode (armState 0 0 0) modeUsr).spsr = none ∧
    (inMode (armState 0 0 0) modeUsr).cpsr.t = false ∧ condPassed .al (inMode (armState 0 0 0) modeUsr).cpsr = true := by
  decide +kernel

/-- Debug state. -/
def inDebug (s : State) : State := { debugOn s with dbg := { s.dbg with active := true } }

theorem test_witness_MsrWritesCpsr :
    (∀ s ∈ [armState 0xF00000DF#32 0x20#32 0, inMode (armState 0xF00000DF#32 0x20#32 0) modeUsr],
      s.cpsr.t = false ∧ s.dbg.active = false ∧ condPassed .al s.cpsr = true) ∧ (14#4 : Reg) ≠ 15#4 ∧
    ((armState 0xF00000DF#32 0x20#32 0).cpsr.m ≠ modeUsr ∧ ((armState 0xF00000DF#32 0x20#32 0).operand 1#4).getLsbD 5 = false) ∧
    ((armState 0xF00000DF#32 0x20#32 0).operand 2#4).getLsbD 5 = true ∧
    (inMode (armState 0xF00000DF#32 0x20#32 0) modeUsr).cpsr.m = modeUsr ∧
    (∀ s ∈ [inDebug (inMode (armState 0xF00000DF#32 0x20#32 0) modeUsr)], s.cpsr.m = modeUsr ∧ s.dbg.active = true ∧
      s.cpsr.t = false ∧ condPassed .al s.cpsr = true ∧ (s.operand 1#4).getLsbD 5 = false ∧
      (s.operand 2#4).getLsbD 5 = true) := by
  decide +kernel

theorem test_witness_MsrWritesSpsr :
    (armState 1 2 3).cpsr.t = false ∧ condPassed .al (armState 1 2 3).cpsr = true ∧ (14#4 : Reg) ≠ 15#4 ∧
    (armState 1 2 3).spsr = some Psr.zero ∧ Psr.zero.m ≠ (armState 1 2 3).cpsr.m ∧
    (inMode (armState 1 2 3) modeSys).spsr = none ∧ (inMode (armState 1 2 3) modeSys).cpsr.t = false ∧
    condPassed .al (inMode (armState 1 2 3) modeSys).cpsr = true := by
  decide +kernel

theorem test_witness_Multiply :
    (armState 1 2 3).cpsr.t = false ∧ condPassed .al (armState 1 2 3).cpsr = true ∧ (14#4 : Reg) ≠ 15#4 ∧
    (true = true → (13#4 : Reg) ≠ 15#4) ∧ (14#4 : Reg) ≠ 12#4 ∧ true = true ∧ false = false := by
  decide +kernel

theorem test_witness_LongMultiply :
    (armState 1 2 3).cpsr.t = false ∧ condPassed .al (armState 1 2 3).cpsr = true ∧ (14#4 : Reg) ≠ 15#4 ∧ (13#4 : Reg) ≠ 15#4 ∧
    (12#4 : Reg) ≠ 15#4 ∧ (14#4 : Reg) ≠ 13#4 ∧ (14#4 : Reg) ≠ 12#4 ∧ (13#4 : Reg) ≠ 12#4 := by
  decide +kernel

theorem test_witness_ArmBranches :
    (armState 0 0 0).cpsr.t = false ∧ condPassed .al (armState 0 0 0).cpsr = true := by
  decide +kernel

/-- R15 as the register at an aligned address, and at a misaligned one in debug state. -/
theorem test_witness_BranchExchange :
    ((armState 1 0 0).cpsr.t = false ∧ condPassed .al (armState 1 0 0).cpsr = true ∧ (14#4 : Reg) ≠ 15#4) ∧
    (thumbState 1 0 0).cpsr.t = true ∧ ((7#3 : LoReg) = 7#3 → (thumbState 1 0 0).pc.getLsbD 1 = false) ∧
    ((6#3 : LoReg) = 7#3 → ({ thumbState 1 0 0 with pc := 0x8002#32 } : State).pc.getLsbD 1 = false) ∧
    ({ thumbState 1 0 0 with pc := 0x8002#32 } : State).dbg.active = false ∧
    ({ thumbState 1 0 0 with pc := 0x8002#32 } : State).pc.getLsbD 1 = true ∧
    (∀ s ∈ [{ thumbState 1 0 0 with pc := 0x8002#32, dbg := { Debug.reset with active := true } }],
      s.cpsr.t = true ∧ s.pc.getLsbD 1 = true ∧ s.dbg.active = true ∧
      nextHas (exec (.tBxHi 7#3 0#3) s) (fun t => t.pc == 0x8004#32 && !t.cpsr.t) = true) := by
  decide +kernel

theorem test_witness_ThumbBranches :
    (thumbState 0 0 0).cpsr.t = true ∧ condPassed (ThumbCond.toCond .ne) (thumbState 0 0 0).cpsr = true ∧
    condPassed (ThumbCond.toCond .eq) (thumbState 0 0 0).cpsr = false ∧
    alignPc (thumbState 0 0 0).cpsr.t (thumbState 0 0 0).pc = (thumbState 0 0 0).pc ∧
    ({ thumbState 0 0 0 with pc := 0xFFFFFFFE#32 } : State).cpsr.t = true ∧
    alignPc true 0xFFFFFFFE#32 = (0xFFFFFFFE#32 : Word) := by
  decide +kernel

/-- An immediate and a register offset at the ends of their ranges. -/
def someOffsets : List Offset := [.imm 0#12, .imm 0xFFF#12, .reg 0#5 .ror 14#4, .reg 31#5 .lsl 0#4]

/-- The four indexings with a base that each allows: R15 where it is not written back. -/
def someIndexings : List (Index × Reg) := [(.offset, 15#4), (.offset, 1#4), (.pre, 14#4), (.post, 1#4), (.translated, 1#4)]

theorem test_witness_SingleLoads :
    ((armState 0xFFFFFFFD#32 0 0).cpsr.t = false ∧ condPassed .al (armState 0xFFFFFFFD#32 0 0).cpsr = true ∧
      (armState 0xFFFFFFFD#32 0 0).isolated = false) ∧ (∀ o ∈ someOffsets, o.rm? ≠ some 15#4) ∧
    (∀ x ∈ someIndexings, x.1.writesBack = true → x.2 ≠ 15#4) ∧
    (∀ (a : Word) (k : LoadKind) (p : Bool), (armState 0xFFFFFFFD#32 0 0).aborts a k.size false false p = false) ∧
    (14#4 : Reg) ≠ 15#4 ∧ (15#4 : Reg) = 15#4 ∧ (0#4 : Reg) ≠ 1#4 :=
  ⟨by decide +kernel, by decide +kernel, by decide +kernel, fun _ _ _ => rfl, by decide, rfl, by decide⟩

theorem test_witness_SingleStores :
    Memory.wf (withData (armState 0xFFFFFFFF#32 0 0)).mem = true ∧
    ((armState 0xFFFFFFFF#32 0 0).cpsr.t = false ∧ condPassed .al (armState 0xFFFFFFFF#32 0 0).cpsr = true ∧
      (withData (armState 0xFFFFFFFF#32 0 0)).isolated = false) ∧ (∀ o ∈ someOffsets, o.rm? ≠ some 15#4) ∧
    (∀ x ∈ someIndexings, x.1.writesBack = true → x.2 ≠ 15#4) ∧
    (∀ (a : Word) (z : Size) (p : Bool), (withData (armState 0xFFFFFFFF#32 0 0)).aborts a z true false p = false) :=
  ⟨by decide +kernel, by decide +kernel, by decide +kernel, by decide +kernel, fun _ _ _ => rfl⟩

/-- P and W as the halfword forms allow, with a base that each allows. -/
def someHalfIndexings : List (Bool × Bool × Reg) := [(true, false, 15#4), (true, false, 1#4), (true, true, 1#4), (false, false, 14#4)]

/-- Halfword offsets at the ends of their range. -/
def someHalfOffsets : List HalfOffset := [.imm 0#8, .imm 255#8, .reg 0#4, .reg 14#4]

theorem test_witness_HalfwordLoads :
    ((armState 0xFFFFFFFE#32 0 0).cpsr.t = false ∧ condPassed .al (armState 0xFFFFFFFE#32 0 0).cpsr = true ∧
      (armState 0xFFFFFFFE#32 0 0).isolated = false) ∧
    (∀ x ∈ someHalfIndexings, (x.1 = false → x.2.1 = false) ∧ (x.1 = false ∨ x.2.1 = true → x.2.2 ≠ 15#4)) ∧
    (∀ o ∈ someHalfOffsets, o.rm? ≠ some 15#4) ∧
    (∀ (a : Word) (k : LoadKind), (armState 0xFFFFFFFE#32 0 0).aborts a k.size false false (armState 0xFFFFFFFE#32 0 0).privileged = false) ∧
    oddHalf .half 0xFFFFFFFE#32 = false ∧ oddHalf .byte 0xFFFFFFFF#32 = false ∧ (0#4 : Reg) ≠ 15#4 ∧ (0#4 : Reg) ≠ 1#4 :=
  ⟨by decide +kernel, by decide +kernel, by decide +kernel, fun _ _ => rfl, by decide +kernel, by decide +kernel, by decide, by decide⟩

theorem test_witness_HalfwordStores :
    (∀ s ∈ [armState 0xFFFFFFFE#32 0 0, armState 0xFFFFFFFF#32 0 0],
      Memory.wf s.mem = true ∧ s.cpsr.t = false ∧ condPassed .al s.cpsr = true ∧ s.isolated = false) ∧
    (∀ x ∈ someHalfIndexings, (x.1 = false → x.2.1 = false) ∧ (x.1 = false ∨ x.2.1 = true → x.2.2 ≠ 15#4)) ∧
    (∀ o ∈ someHalfOffsets, o.rm? ≠ some 15#4) ∧
    ((armState 0xFFFFFFFE#32 0 0).operand 1#4).getLsbD 0 = false ∧ ((armState 0xFFFFFFFF#32 0 0).operand 1#4).getLsbD 0 = true ∧
    (∀ a : Word, (armState 0xFFFFFFFE#32 0 0).aborts a .half true false (armState 0xFFFFFFFE#32 0 0).privileged = false) :=
  ⟨by decide +kernel, by decide +kernel, by decide +kernel, by decide +kernel, by decide +kernel, fun _ => rfl⟩

theorem test_witness_AbortedSingleTransfers :
    (∀ s ∈ [aborting (armState 0xFFFFFFFE#32 0 0), aborting (thumbState 0xFFFFFFFE#32 0 0)], condPassed .al s.cpsr = true ∧ s.isolated = false ∧
      s.aborts 0#32 .word false false true = true ∧ s.aborts 0xFFFFFFFF#32 .byte true false false = true ∧
      s.aborts 0xFFFFFFFE#32 .half true false s.privileged = true ∧ s.aborts 0xFFFFFFFE#32 .half false false s.privileged = true) ∧
    (∀ o ∈ someOffsets, o.rm? ≠ some 15#4) ∧ (∀ x ∈ someIndexings, x.1.writesBack = true → x.2 ≠ 15#4) ∧
    (∀ x ∈ someHalfIndexings, (x.1 = false → x.2.1 = false) ∧ (x.1 = false ∨ x.2.1 = true → x.2.2 ≠ 15#4)) ∧
    (∀ o ∈ someHalfOffsets, o.rm? ≠ some 15#4) ∧
    (HdtOp.strh = .strh → ((armState 0xFFFFFFFE#32 0 0).operand 1#4).getLsbD 0 = false) ∧
    Instr.thumbLoad (thumbState 0xFFFFFFFE#32 0 0) (.tLdrhImm 0#5 1#3 0#3) = some (.half, 0#3, 0xFFFFFFFE#32) ∧
    Instr.thumbStore (thumbState 0xFFFFFFFE#32 0 0) (.tStrhImm 0#5 1#3 0#3) = some (.half, 0#3, 0xFFFFFFFE#32) ∧
    oddHalf .half 0xFFFFFFFE#32 = false := by
  decide +kernel

/-- Load multiples of both instruction sets, with every register in the list and with one. -/
def someLoads : List Instr :=
  [.ldm .al true false false true 14#4 0xFFFF#16, .ldm .al false true false false 0#4 0x8000#16, .ldm .al false true false true 1#4 1#16]

/-- The same in THUMB state. -/
def someThumbLoads : List Instr := [.tPop 0xFF#8, .tPopPc 0#8, .tLdmia 7#3 1#8]

/-- Store multiples of both instruction sets. -/
def someStores : List Instr :=
  [.stm .al true false false true 14#4 0xFFFF#16, .stm .al false true false false 0#4 0x8000#16, .stm .al false true false true 1#4 1#16]

/-- The same in THUMB state. -/
def someThumbStores : List Instr := [.tPush 0xFF#8, .tPushLr 0#8, .tStmia 7#3 1#8]

theorem passes_all {l : List Instr} {s : State} (h : l.all (fun i => i.cond? == some .al || i.cond? == none) = true)
    (i : Instr) (hi : i ∈ l) : i.passes s := by
  have := List.all_eq_true.mp h i hi
  simp only [Bool.or_eq_true, beq_iff_eq] at this
  rcases this with h | h
  · exact passes_of .al h rfl
  · exact passes_thumb h

theorem test_witness_LoadMultiple :
    (∀ i ∈ someLoads ++ someThumbLoads, i.loadsMany.isSome = true ∧ i.wf = true) ∧
    (∀ i ∈ someLoads, i.passes (armState 0xFFFFFFFC#32 0 0)) ∧ (∀ i ∈ someThumbLoads, i.passes (thumbState 0xFFFFFFFC#32 0 0)) ∧
    (armState 0xFFFFFFFC#32 0 0).isolated = false ∧ (thumbState 0xFFFFFFFC#32 0 0).isolated = false ∧
    (∀ a : Word, (armState 0xFFFFFFFC#32 0 0).aborts a .word false false (armState 0xFFFFFFFC#32 0 0).privileged = false) ∧
    (∀ a : Word, (thumbState 0xFFFFFFFC#32 0 0).aborts a .word false false (thumbState 0xFFFFFFFC#32 0 0).privileged = false) :=
  ⟨by decide +kernel, passes_all (by decide +kernel), passes_all (by decide +kernel), rfl, rfl, fun _ => rfl, fun _ => rfl⟩

theorem test_witness_StoreMultiple :
    (∀ i ∈ someStores ++ someThumbStores, i.storesMany.isSome = true ∧ i.wf = true) ∧
    (∀ i ∈ someStores, i.passes (armState 0xFFFFFFFC#32 0 0)) ∧ (∀ i ∈ someThumbStores, i.passes (thumbState 0xFFFFFFFC#32 0 0)) ∧
    (armState 0xFFFFFFFC#32 0 0).isolated = false ∧ (thumbState 0xFFFFFFFC#32 0 0).isolated = false ∧
    Memory.wf (armState 0xFFFFFFFC#32 0 0).mem = true ∧ Memory.wf (thumbState 0xFFFFFFFC#32 0 0).mem = true ∧
    (∀ a : Word, (armState 0xFFFFFFFC#32 0 0).aborts a .word true false (armState 0xFFFFFFFC#32 0 0).privileged = false) ∧
    (∀ a : Word, (thumbState 0xFFFFFFFC#32 0 0).aborts a .word true false (thumbState 0xFFFFFFFC#32 0 0).privileged = false) :=
  ⟨by decide +kernel, passes_all (by decide +kernel), passes_all (by decide +kernel), rfl, rfl, rfl, rfl, fun _ => rfl, fun _ => rfl⟩

/-- Three stores of which the second is aborted: STM with write-back, PUSH, and STM of the User bank. -/
theorem test_witness_AbortedStoreMultiple :
    (∀ s ∈ [abortsAt (armState 0x100#32 7#32 8#32) 0x104],
      Instr.storesMany (.stm .al false true false true 1#4 0b1110#16) = some (false, true, true, 1#4, 0b1110#16) ∧
      Instr.wf (.stm .al false true false true 1#4 0b1110#16) = true ∧ condPassed .al s.cpsr = true ∧ s.isolated = false ∧
      Memory.wf s.mem = true ∧
      s.aborts (blockAddress false true (s.operand 1#4) 0b1110#16 2#4) .word true false s.privileged = true ∧
      s.aborts (blockAddress false true (s.operand 1#4) 0b1110#16 3#4) .word true false s.privileged = false) ∧
    (∀ s ∈ [abortsAt ((thumbState 1 2 3).setReg .r13Svc 0x10C#32) 0x104],
      Instr.storesMany (.tPushLr 0b110#8) = some (true, false, true, 13#4, 0x4006#16) ∧ s.isolated = false ∧
      Instr.wf (.tPushLr 0b110#8) = true ∧ Instr.cond? (.tPushLr 0b110#8) = none ∧
      s.aborts (blockAddress true false (s.operand 13#4) 0x4006#16 2#4) .word true false s.privileged = true) ∧
    (∀ s ∈ [abortsAt (armState 0x100#32 7#32 8#32) 0x104],
      s.cpsr.m ≠ modeUsr ∧ Instr.wf (.stm .al false true true false 1#4 0x8006#16) = true ∧
      s.aborts (blockAddress false true (s.operand 1#4) 0x8006#16 2#4) .word true false s.privileged = true) := by
  refine ⟨?_, ?_, ?_⟩ <;> decide +kernel

theorem test_witness_BlockTransferSBit :
    ((armState 0xFFFFFFFC#32 0 0).cpsr.t = false ∧ condPassed .al (armState 0xFFFFFFFC#32 0 0).cpsr = true ∧ (14#4 : Reg) ≠ 15#4 ∧
      (0x8000#16 : BitVec 16).getLsbD 15 = true ∧ (armState 0xFFFFFFFC#32 0 0).spsr = some Psr.zero ∧
      (armState 0xFFFFFFFC#32 0 0).isolated = false) ∧
    (∀ a : Word, (armState 0xFFFFFFFC#32 0 0).aborts a .word false false (armState 0xFFFFFFFC#32 0 0).privileged = false) ∧
    ((0x7FFF#16 : BitVec 16) ≠ 0#16 ∧ (0x7FFF#16 : BitVec 16).getLsbD 15 = false ∧ (armState 0xFFFFFFFC#32 0 0).cpsr.m ≠ modeUsr) ∧
    ((inMode (armState 0xFFFFFFFC#32 0 0) modeSys).cpsr.m ≠ modeUsr ∧ (inMode (armState 0xFFFFFFFC#32 0 0) modeSys).cpsr.m = modeSys) ∧
    Memory.wf (armState 0xFFFFFFFC#32 0 0).mem = true ∧
    (∀ a : Word, (armState 0xFFFFFFFC#32 0 0).aborts a .word true false (armState 0xFFFFFFFC#32 0 0).privileged = false) ∧
    ((inMode (armState 0 0 0) modeUsr).cpsr.m = modeUsr ∧ condPassed .al (inMode (armState 0 0 0) modeUsr).cpsr = true ∧
      ((1#16 : BitVec 16).getLsbD 15 = true ∨ false = false)) :=
  ⟨by decide +kernel, fun _ => rfl, by decide +kernel, by decide +kernel, rfl, fun _ => rfl, by decide +kernel⟩

theorem test_witness_AbortedLoadMultiple :
    ∀ x ∈ [(aborting (armState 0x100#32 0 0), Instr.ldm .al false true false true 1#4 0x8001#16, true, 1#4, (0x8001#16 : BitVec 16), [0#4, 15#4]),
        (aborting (thumbState 0x100#32 0 0), Instr.tPopPc 0x01#8, true, 13#4, 0x8001#16, [0#4, 15#4])],
      x.2.1.loadsMany = some (false, true, x.2.2.1, x.2.2.2.1, x.2.2.2.2.1) ∧ x.2.1.wf = true ∧
      (x.2.1.cond? = some .al ∨ x.2.1.cond? = none) ∧ x.1.isolated = false ∧
      ∀ bad ∈ x.2.2.2.2.2, x.2.2.2.2.1.getLsbD (BitVec.toNat bad) = true ∧
        x.1.aborts (blockAddress false true (x.1.operand x.2.2.2.1) x.2.2.2.2.1 bad) .word false false x.1.privileged = true := by
  decide +kernel

/-- The S forms, with and without R15 in the list: the second transfer is aborted. -/
theorem test_witness_AbortedLoadMultipleSBit :
    ((abortsAt (armState 0x100#32 7#32 8#32) 0x104).cpsr.m ≠ modeUsr ∧
      (abortsAt (armState 0x100#32 7#32 8#32) 0x104).spsr = some Psr.zero ∧
      (abortsAt (armState 0x100#32 7#32 8#32) 0x104).isolated = false) ∧
    (Instr.wf (.ldm .al false true true false 1#4 0x8006#16) = true ∧ (0x8006#16).getLsbD 1 = true ∧
      (0x8006#16).getLsbD 2 = true ∧ (0x8006#16).getLsbD 0 = false) ∧
    (Instr.wf (.ldm .al false true true false 1#4 0x0006#16) = true ∧ (0x0006#16).getLsbD 1 = true ∧
      (0x0006#16).getLsbD 2 = true ∧ (0x0006#16).getLsbD 0 = false) ∧
    (blockAddress false true 0x100#32 0x8006#16 2#4 = 0x104#32 ∧ blockAddress false true 0x100#32 0x8006#16 1#4 = 0x100#32 ∧
      blockAddress false true 0x100#32 0x0006#16 2#4 = 0x104#32 ∧ blockAddress false true 0x100#32 0x0006#16 1#4 = 0x100#32) ∧
    (abortsAt (armState 0x100#32 7#32 8#32) 0x104).aborts 0x104#32 .word false false true = true ∧
    (abortsAt (armState 0x100#32 7#32 8#32) 0x104).aborts 0x100#32 .word false false true = false := by
  refine ⟨?_, ?_, ?_, ?_, ?_, ?_⟩ <;> decide +kernel

theorem test_witness_Swap :
    ((armState 0xFFFFFFFF#32 0 0).cpsr.t = false ∧ condPassed .al (armState 0xFFFFFFFF#32 0 0).cpsr = true ∧ (1#4 : Reg) ≠ 15#4 ∧
      (14#4 : Reg) ≠ 15#4 ∧ (armState 0xFFFFFFFF#32 0 0).isolated = false ∧ Memory.wf (armState 0xFFFFFFFF#32 0 0).mem = true) ∧
    (∀ z ∈ [Size.byte, .word], (armState 0xFFFFFFFF#32 0 0).aborts 0xFFFFFFFF#32 z false false true = false ∧
      (armState 0xFFFFFFFF#32 0 0).aborts 0xFFFFFFFF#32 z true false true = false) ∧
    (aborting (armState 0xFFFFFFFF#32 0 0)).isolated = false ∧ Memory.wf (aborting (armState 0xFFFFFFFF#32 0 0)).mem = true ∧
    (∀ z ∈ [Size.byte, .word], (aborting (armState 0xFFFFFFFF#32 0 0)).aborts 0xFFFFFFFF#32 z false false true = true ∨
      (aborting (armState 0xFFFFFFFF#32 0 0)).aborts 0xFFFFFFFF#32 z true false true = true) := by
  decide +kernel

/-- The five coprocessor instructions, by the coprocessor they address. -/
def someCoproc (cp : BitVec 4) : List Instr :=
  [.cdp .al 0#4 0#4 0#4 cp 0#3 0#4, .stc .al true true false true 1#4 0#4 cp 0#8, .ldc .al true true false false 15#4 0#4 cp 0xFF#8,
    .mcr .al 0#3 0#4 15#4 cp 0#3 0#4, .mrc .al 0#3 0#4 0#4 cp 0#3 0#4]

theorem test_witness_CoprocessorHandshake :
    (∀ cp ∈ [0#4, 14#4, 15#4], ∀ i ∈ someCoproc cp, i.coprocessor = some cp ∧ i.wf = true ∧ i.cond? = some .al) ∧
    (armState 0 0 0).cpsr.t = false ∧ condPassed .al (armState 0 0 0).cpsr = true ∧
    (armState 0 0 0).pins.dbgen = false ∧
    ((debugOn (armState 0 0 0)).pins.dbgen = true ∧ Instr.commsForm (.cdp .al 0#4 0#4 0#4 14#4 0#3 0#4) = false ∧
      Instr.commsForm (.mcr .al 0#3 0#4 0#4 14#4 0#3 0#4) = false ∧ Instr.commsForm (.mcr .al 0#3 1#4 0#4 14#4 0#3 0#4) = true) ∧
    (armState 0 0 0).pins.coprocPresent.getLsbD 15 = false ∧ (withCoproc (armState 0 0 0) .absent).inp.cop = .absent ∧
    ((1#4 : BitVec 4) ≠ 14#4 ∧ (withCoproc (armState 0 0 0) .busy).pins.coprocPresent.getLsbD 1 = true ∧
      (withCoproc (armState 0 0 0) .busy).inp.cop = .busy) := by
  decide +kernel

theorem test_witness_CoprocessorRegisterTransfers :
    ∀ s ∈ [withCoproc (armState 0 0 0) (.ready 0xF0000000#32 [])],
      s.cpsr.t = false ∧ condPassed .al s.cpsr = true ∧ (1#4 : BitVec 4) ≠ 14#4 ∧ s.pins.coprocPresent.getLsbD 1 = true ∧
      s.inp.cop = .ready 0xF0000000#32 [] ∧ (14#4 : Reg) ≠ 15#4 := by
  decide +kernel

theorem test_witness_CoprocessorDataTransfers :
    (∀ s ∈ [withCoproc (armState 0xFFFFFFFC#32 0 0) (.ready 1#32 []), withCoproc (armState 0xFFFFFFFC#32 0 0) (.ready 1#32 [2#32])],
      s.cpsr.t = false ∧ condPassed .al s.cpsr = true ∧ (true = true → (1#4 : Reg) ≠ 15#4) ∧ (false = true → (15#4 : Reg) ≠ 15#4) ∧
      (1#4 : BitVec 4) ≠ 14#4 ∧ s.pins.coprocPresent.getLsbD 1 = true ∧ s.isolated = false ∧ Memory.wf s.mem = true ∧
      (s.inp.cop = .ready 1#32 [] ∨ s.inp.cop = .ready 1#32 [2#32])) ∧
    (∀ a : Word, (withCoproc (armState 0xFFFFFFFC#32 0 0) (.ready 1#32 [])).aborts a .word false false true = false) ∧
    (∀ a : Word, (withCoproc (armState 0xFFFFFFFC#32 0 0) (.ready 1#32 [])).aborts a .word true false true = false) ∧
    ([2#32] : List Word).length < 1073741824 :=
  ⟨by decide +kernel, fun _ => rfl, fun _ => rfl, by decide⟩

/-- Three words of which the second is aborted. -/
theorem test_witness_AbortedCoprocessorTransfers :
    ∀ write ∈ [false, true], ∀ s ∈ [abortsAt (withCoproc (armState 0x100#32 0 0) (.ready 1#32 [2#32, 3#32])) 0x104],
      s.isolated = false ∧ s.inp.cop = .ready 1#32 [2#32, 3#32] ∧ Memory.wf s.mem = true ∧
      1 ≤ ([2#32, 3#32] : List Word).length ∧
      (∀ k < 1, s.aborts (0x100#32 + BitVec.ofNat 32 (4 * k)) .word write false s.privileged = false) ∧
      s.aborts (0x100#32 + BitVec.ofNat 32 (4 * 1)) .word write false s.privileged = true := by
  decide +kernel

/-- The last register of the bank, and R15: the flags from the Comms Data Read register and from the control register. -/
theorem test_witness_CommsChannel :
    ∀ s ∈ [{ debugOn (armState 0 0 0) with dbg := { Debug.reset with commsRead := 0xA0000000#32, commsR := true } }],
      s.cpsr.t = false ∧ condPassed .al s.cpsr = true ∧ s.pins.dbgen = true ∧ (14#4 : Reg) ≠ 15#4 ∧
      nextHas (exec (.mrc .al 0#3 1#4 15#4 14#4 0#3 0#4) s)
        (fun t => nzcv t == [true, false, true, false] && !t.dbg.commsR) = true ∧
      nextHas (exec (.mrc .al 0#3 0#4 15#4 14#4 0#3 0#4) s) (fun t => t.pc == 0x8004#32 && t.dbg.commsR) = true := by
  decide +kernel

theorem test_witness_ThumbFormats : (thumbState 1 2 3).cpsr.t = true ∧ (0#3 : LoReg) ≠ 7#3 := by decide +kernel

theorem test_witness_ThumbHiRegisters :
    (thumbState 1 2 3).cpsr.t = true ∧ Instr.hiAdd (.tAddLoHi 7#3 0#3) = some (0#4, 15#4) ∧ (0#4 : Reg) ≠ 15#4 ∧
    Instr.hiAdd (.tAddHiHi 0#3 7#3) = some (15#4, 8#4) ∧ Instr.hiMov (.tMovHiLo 7#3 0#3) = some (8#4, 7#4) ∧
    Instr.hiMov (.tMovHiHi 7#3 7#3) = some (15#4, 15#4) ∧ Instr.hiCmp (.tCmpHiHi 7#3 7#3) = some (15#4, 15#4) ∧
    Instr.hiCmp (.tCmpLoHi 0#3 0#3) = some (0#4, 8#4) := by
  decide +kernel

theorem test_witness_ThumbLoads :
    (thumbState 0xFFFFFFFE#32 0 0).cpsr.t = true ∧
    Instr.thumbLoad (thumbState 0xFFFFFFFE#32 0 0) (.tLdrhImm 0#5 1#3 7#3) = some (.half, 7#3, 0xFFFFFFFE#32) ∧
    Instr.thumbLoad (thumbState 0xFFFFFFFE#32 0 0) (.tLdrPc 7#3 0xFF#8) = some (.word, 7#3, 0x8400#32) ∧
    (thumbState 0xFFFFFFFE#32 0 0).isolated = false ∧
    (thumbState 0xFFFFFFFE#32 0 0).aborts 0xFFFFFFFE#32 .half false false true = false ∧ oddHalf .half 0xFFFFFFFE#32 = false := by
  decide +kernel

theorem test_witness_ThumbStores :
    (∀ s ∈ [thumbState 0xFFFFFFFE#32 0 0, thumbState 0xFFFFFFFF#32 0 0], s.cpsr.t = true ∧ s.isolated = false ∧ Memory.wf s.mem = true) ∧
    Instr.thumbStore (thumbState 0xFFFFFFFE#32 0 0) (.tStrhImm 0#5 1#3 7#3) = some (.half, 7#3, 0xFFFFFFFE#32) ∧
    oddHalf .half 0xFFFFFFFE#32 = false ∧ (thumbState 0xFFFFFFFE#32 0 0).aborts 0xFFFFFFFE#32 .half true false true = false ∧
    Instr.thumbStore (thumbState 0xFFFFFFFF#32 0 0) (.tStrhImm 0#5 1#3 7#3) = some (.half, 7#3, 0xFFFFFFFF#32) ∧
    oddHalf .half 0xFFFFFFFF#32 = true := by
  decide +kernel

/-- DBGRQ, BREAKPT on the fetch, a breakpoint mark in the queue, and debug state; and at the end of an instruction a watched
data access: in an illegal mode, aborted, with no interrupt to take, with nFIQ LOW, with nIRQ LOW. -/
theorem test_witness_DebugEntry :
    (∀ s ∈ [{ debugOn (thumbState 0 0 0) with env := [{ Inputs.inactive with dbgrq := true }] }],
      s.pins.dbgen = true ∧ legalMode s.cpsr.m = true ∧ s.resetCycles = 0 ∧ (s.env.headD Inputs.inactive).nRESET = true ∧
      s.tapIdle ∧ s.dbg.active = false ∧ (s.env.headD Inputs.inactive).dbgrq = true) ∧
    (∀ s ∈ [{ debugOn (armState 0 0 0) with env := [{ Inputs.inactive with breakpt := [true] }] }],
      s.pins.dbgen = true ∧ s.running ∧ s.quiet ∧ (s.beginStep.slot 0).aborted = false ∧ s.pipe = [] ∧
      (s.env.headD Inputs.inactive).breakpt.getD 0 false = true) ∧
    (∀ s ∈ [{ debugOn (thumbState 0 0 0) with pipe := [⟨0#32, false, true⟩] }],
      s.pins.dbgen = true ∧ s.running ∧ s.quiet ∧ (s.beginStep.slot 0).aborted = false ∧
      (s.beginStep.slot 0).breakpoint = true) ∧
    (∀ s ∈ [{ debugOn (armState 0 0 0) with dbg := { Debug.reset with active := true } }],
      s.pins.dbgen = true ∧ legalMode s.cpsr.m = true ∧ s.resetCycles = 0 ∧ (s.env.headD Inputs.inactive).nRESET = true ∧
      s.tapIdle ∧ s.dbg.active = true) ∧
    (∀ t ∈ [inMode (accessed (armState 0 0 0) true false) 0#5],
      t.pins.dbgen = true ∧ (t.iceCycles (t.bus.filter fun c => !c.fetch)).1 = true ∧ legalMode t.cpsr.m = false) ∧
    (∀ t ∈ [accessed (armState 0 0 0) true true],
      t.pins.dbgen = true ∧ legalMode t.cpsr.m = true ∧ (t.iceCycles (t.bus.filter fun c => !c.fetch)).1 = true ∧
      ∃ c ∈ t.bus.filter fun c => !c.fetch, c.aborted = true) ∧
    (∀ t ∈ [accessed (thumbState 0 0 0) true false],
      t.pins.dbgen = true ∧ legalMode t.cpsr.m = true ∧ (t.iceCycles (t.bus.filter fun c => !c.fetch)).1 = true ∧
      (∀ c ∈ t.bus.filter fun c => !c.fetch, c.aborted = false) ∧ t.inp.nFIQEnd = true ∧ t.inp.nIRQEnd = true) ∧
    (∀ t ∈ [{ accessed (armState 0 0 0) true false with
        inp := { Inputs.inactive with nFIQEnd := false, nIRQEnd := false },
        cpsr := { State.reset.cpsr with f := false, i := false } }],
      (t.iceCycles (t.bus.filter fun c => !c.fetch)).1 = true ∧
      (t.dbg.active = false ∧ t.dbg.intdis = false) ∧ t.cpsr.f = false ∧ t.inp.nFIQEnd = false) ∧
    (∀ t ∈ [{ accessed (armState 0 0 0) true false with
        inp := { Inputs.inactive with nFIQEnd := false, nIRQEnd := false }, cpsr := { State.reset.cpsr with i := false } }],
      (t.iceCycles (t.bus.filter fun c => !c.fetch)).1 = true ∧
      (t.dbg.active = false ∧ t.dbg.intdis = false) ∧ t.cpsr.f = true ∧ t.cpsr.i = false ∧ t.inp.nIRQEnd = false) := by
  refine ⟨?_, ?_, ?_, ?_, ?_, ?_, ?_, ?_, ?_⟩ <;> (try unfold State.running) <;> (try unfold State.quiet) <;>
    (try unfold State.tapIdle) <;> decide +kernel

/-- Debug state with INTEST on scan chain 1, R1 = 0x100, and a debugger's command. -/
def stopped (g : Debug) (cmd : DebugCmd) : State :=
  { debugOn (armState 0x100#32 7#32 0) with
    dbg := { g with active := true, scanSelect := 1#4 }, env := [{ Inputs.inactive with dbg := cmd }] }

/-- MOV R1, #5 scanned in at debug speed, and after bit 33 HIGH; LDR R0, [R1] waiting, then BYPASS; B waiting, then
RUN-TEST/IDLE with RESTART. -/
theorem test_witness_DebugStateExecution :
    (∀ s ∈ [stopped { Debug.reset with tapIr := 0b1100#4 } (.scan true 0xE3A01005#32 [])],
      s.pins.dbgen = true ∧ legalMode s.cpsr.m = true ∧ s.resetCycles = 0 ∧ (s.env.headD Inputs.inactive).nRESET = true ∧
      (s.env.headD Inputs.inactive).nTRST = true ∧ s.dbg.active = true ∧ s.dbg.systemSpeed = false ∧ s.cpsr.t = false ∧
      decodeArm 0xE3A01005#32 = .ok (.movImm .al false 0#4 1#4 0#4 5#8) ∧ s.dbg.scanSelect = 1#4 ∧
      s.dbg.tapIr = 0b1100#4 ∧ s.dbg.pending = none ∧ s.dbg.refill = 0 ∧ s.dbg.scanned33 = false ∧
      debugUse (.movImm .al false 0#4 1#4 0#4 5#8) = .compute ∧
      nextHas (step s) (fun t => t.getReg .r1 == 5#32 && t.dbg.scanned33 && t.dbg.active) = true) ∧
    (∀ s ∈ [stopped { Debug.reset with tapIr := 0b1100#4, scanned33 := true } (.scan false 0xE5910000#32 [])],
      s.dbg.pending = none ∧ s.dbg.refill = 0 ∧ s.dbg.scanned33 = true ∧ s.dbg.systemSpeed = false ∧
      decodeArm 0xE5910000#32 = .ok (.ldrImmPre .al true false 1#4 0#4 0#12) ∧
      nextHas (step s) (fun t => t.dbg.pending == some 0xE5910000#32) = true) ∧
    (∀ s ∈ [stopped { Debug.reset with tapIr := 0b1100#4, pending := some 0xE5910000#32 } (.loadIr 0b1111#4)],
      s.dbg.pending = some 0xE5910000#32 ∧ debugUse (.ldrImmPre .al true false 1#4 0#4 0#12) = .access ∧
      nextHas (step (withData s)) (fun t => t.getReg .r0 == 0x84332211#32 && t.dbg.active && t.pc == 0x800C#32) = true) ∧
    (∀ s ∈ [stopped { Debug.reset with tapIr := 0b0100#4, pending := some 0xEAFFFFFE#32, executed := 2 } .runTestIdle],
      s.dbg.pending = some 0xEAFFFFFE#32 ∧ decodeArm 0xEAFFFFFE#32 = .ok (.b .al 0xFFFFFE#24) ∧
      debugUse (.b .al 0xFFFFFE#24) = .branch ∧ s.dbg.tapIr = 0b0100#4 ∧ 2 ≤ s.dbg.executed ∧
      nextHas (step s) (fun t => t.pc == 0x8000#32 && !t.dbg.active) = true) := by
  refine ⟨?_, ?_, ?_, ?_⟩ <;> decide +kernel

theorem test_witness_DebugStateIsolatesMemory :
    ∀ s ∈ [{ debugOn (armState 0x100#32 7#32 0) with dbg := { Debug.reset with active := true } }],
      s.isolated = true ∧ nextHas (exec (.strImmPre .al true false 1#4 2#4 0#12) s) (fun t => t.dbg.scanOut == [7#32]) = true := by
  decide +kernel

theorem test_witness_DebugDisabled :
    (armState 0 0 0).pins.dbgen = false ∧ (armState 0 0 0).dbg.active = false ∧
    nextHas (step (armState 0 0 0)) (fun _ => true) = true := by
  decide +kernel

/-- DBGEN = 1, with a debugger's command of this step and nTRST as given. -/
def commanded (g : Debug) (nTRST : Bool) (cmd : DebugCmd) : State :=
  { debugOn (armState 0 0 0) with dbg := g, inp := { Inputs.inactive with nTRST := nTRST, dbg := cmd } }

theorem test_witness_DebugRegisters :
    ((8#5 : BitVec 5) ∈ [8#5, 9#5, 10#5, 11#5, 16#5, 17#5, 18#5, 19#5] ∧
      (19#5 : BitVec 5) ∈ [8#5, 9#5, 10#5, 11#5, 16#5, 17#5, 18#5, 19#5] ∧ (12#5 : BitVec 5) ∈ [12#5, 20#5] ∧
      (21#5 : BitVec 5) ∈ [13#5, 21#5] ∧ (31#5 : BitVec 5) ≠ 8#5 ∧ (0#5 : BitVec 5) ≠ 21#5) ∧
    (∀ cmd ∈ [DebugCmd.iceRead 1#5, .iceRead 5#5, .iceWrite 20#5 0x1FF#32],
      ∀ s ∈ [commanded { Debug.reset with active := true, scanSelect := 2#4, tapIr := 0b1100#4 } true cmd],
        s.pins.dbgen = true ∧ s.inp.nTRST = true ∧ s.dbg.scanSelect = 2#4 ∧ s.dbg.tapIr = 0b1100#4 ∧ s.inp.dbg = cmd ∧
        s.dbg.active = true) ∧
    (∀ cmd ∈ [DebugCmd.loadIr 0b1111#4, .selectChain 3#4, .selectChain 4#4, .selectChain 15#4, .scanDr true, .runTestIdle],
      ∀ ir ∈ [0b0010#4, 0b1110#4, 0b1111#4, 0b0100#4], ∀ s ∈ [commanded { Debug.reset with tapIr := ir } true cmd],
        s.pins.dbgen = true ∧ s.inp.nTRST = true ∧ s.inp.dbg = cmd ∧ s.dbg.tapIr = ir) ∧
    ((3#4 : BitVec 4).toNat < 4 ∧ 4 ≤ (4#4 : BitVec 4).toNat ∧ 4 ≤ (15#4 : BitVec 4).toNat) ∧
    (∀ s ∈ [commanded Debug.reset false .runTestIdle], s.pins.dbgen = true ∧ s.inp.nTRST = false) ∧
    (∀ s ∈ [{ debugOn (armState 0 0 0) with
        pipe := [⟨0xE3A01005#32, false, false⟩], env := [{ Inputs.inactive with nTRST := false }] }],
      s.pins.dbgen = true ∧ (s.env.headD Inputs.inactive).nTRST = false ∧ nextHas (step s) (fun _ => true) = true) ∧
    (∀ s ∈ [{ debugOn (armState 0 0 0) with env := [{ Inputs.inactive with dbg := .selectChain 4#4 }] }],
      (s.env.headD Inputs.inactive).nRESET = true ∧ s.resetCycles = 0 ∧ s.beginStep.tapStep = none) ∧
    (∀ s ∈ [debugOn (armState 0 0 0)], (s.env.headD Inputs.inactive).nRESET = true ∧ s.resetCycles = 0 ∧
      s.beginStep.tapStep = some s.beginStep) := by
  refine ⟨?_, ?_, ?_, ?_, ?_, ?_, ?_, ?_⟩ <;> decide +kernel

end Sys2Proof.Tests
end

section
/-! O14: the register banks of 10 R24 and R25. -/

namespace Sys2Proof.Machine

/-! ### Which mode owns a register -/

/-- R0 to R7 are not banked (10 R24). -/
theorem physReg_of_lt_eight (m : BitVec 5) (r : Reg) (h : r.toNat < 8) : physReg m r = physReg modeUsr r := by
  unfold physReg
  generalize r.toNat = k at h ⊢
  interval_cases k <;> rfl

/-- R8 to R12 have one bank for FIQ mode and one for all the others (10 R24). -/
theorem physReg_eq_user_iff (m : BitVec 5) (r : Reg) (h8 : 8 ≤ r.toNat) (h13 : r.toNat < 13) :
    physReg m r = physReg modeUsr r ↔ m ≠ modeFiq := by
  unfold physReg
  generalize r.toNat = k at h8 h13 ⊢
  have hu : modeUsr ≠ modeFiq := by decide
  by_cases hm : m = modeFiq <;> interval_cases k <;> simp [hm, hu]

/-- The seven legal modes (10 R39). -/
theorem legalMode_cases {m : BitVec 5} (h : legalMode m = true) :
    m = modeUsr ∨ m = modeFiq ∨ m = modeIrq ∨ m = modeSvc ∨ m = modeAbt ∨ m = modeUnd ∨ m = modeSys := by
  simpa [legalMode, or_assoc] using h

/-- The mode whose stack pointer or link register a physical register is, User mode for R13 and R14 without a suffix
(10 R24); User mode, too, for the registers that are neither. -/
def PReg.ownerMode : PReg → BitVec 5
  | .r13Fiq | .r14Fiq => modeFiq
  | .r13Irq | .r14Irq => modeIrq
  | .r13Svc | .r14Svc => modeSvc
  | .r13Abt | .r14Abt => modeAbt
  | .r13Und | .r14Und => modeUnd
  | _ => modeUsr

/-- Every legal mode owns its R13 and R14, but System mode, which has those of User mode. -/
theorem ownerMode_physReg {m : BitVec 5} {r : Reg} (h : legalMode m = true) (hr : r = 13#4 ∨ r = 14#4) :
    (physReg m r).ownerMode = if m = modeSys then modeUsr else m := by
  rcases hr with rfl | rfl <;> rcases legalMode_cases h with rfl | rfl | rfl | rfl | rfl | rfl | rfl <;> rfl

/-- Two legal modes share R13 or R14 only if they are equal or are User and System mode. -/
theorem physReg_ne_of_mode_ne {m m' : BitVec 5} {r : Reg} (h : legalMode m = true) (h' : legalMode m' = true)
    (hr : r = 13#4 ∨ r = 14#4) (hne : m ≠ m') (hu : ¬ (m ∈ [modeUsr, modeSys] ∧ m' ∈ [modeUsr, modeSys])) :
    physReg m' r ≠ physReg m r := by
  intro he
  have ho : (if m' = modeSys then modeUsr else m') = if m = modeSys then modeUsr else m := by
    rw [← ownerMode_physReg h' hr, ← ownerMode_physReg h hr, he]
  simp only [List.mem_cons, List.not_mem_nil, or_false] at hu
  split at ho
  · next hs' =>
    split at ho
    · next hs => exact hne (hs.trans hs'.symm)
    · exact hu ⟨.inl ho.symm, .inr hs'⟩
  · split at ho
    · next hs => exact hu ⟨.inr hs, .inl ho⟩
    · exact hne ho.symm

/-- System mode uses the User-mode registers (10 R25). -/
theorem physReg_system (r : Reg) : physReg modeSys r = physReg modeUsr r := rfl

/-- The pins nM[4:0] are the mode bits inverted (10 R42). -/
theorem State.nM_xor_mode (s : State) : s.nM ^^^ s.cpsr.m = 0b11111#5 := by
  rw [State.nM, ← BitVec.not_xor_left, BitVec.xor_self]
  rfl

/-- Settles O14, from the registers that each mode owns. -/
theorem registerBanks : Obligations.RegisterBanks := by
  unfold Obligations.RegisterBanks
  refine ⟨physReg_of_lt_eight, physReg_eq_user_iff, ?_, physReg_system, fun s h => ⟨s.spsr_system h, ?_⟩,
    fun s h => ⟨s.spsr_user h, ?_⟩, fun s => ⟨s.nM_xor_mode, rfl⟩⟩
  · intro m m' r s v h h' hr hne hu
    exact s.setReg_getReg_ne _ _ v (physReg_ne_of_mode_ne h h' hr hne hu)
  · rw [State.privileged, h]
    decide
  · rw [State.privileged, h]
    decide

end Sys2Proof.Machine
end

section
/-! The watchpoint units (61 R481 to R484): each comparison of the model is the bit-by-bit match of the rules. -/

namespace Sys2Proof.Machine

/-! ### Fields -/

theorem fieldMatch_iff {n : Nat} (v m x : BitVec n) : fieldMatch v m x = true ↔ matchesField v m x := by
  unfold fieldMatch matchesField
  rw [beq_iff_eq, BitVec.eq_of_getLsbD_eq_iff]
  refine forall₂_congr fun k hk => ?_
  simp only [BitVec.getLsbD_or, BitVec.getLsbD_not, BitVec.getLsbD_xor, BitVec.getLsbD_allOnes, hk]
  cases v.getLsbD k <;> cases m.getLsbD k <;> cases x.getLsbD k <;> decide

/-- A field that is compared as a whole is compared in its two parts. -/
theorem matchesField_append {a b : Nat} (v m : BitVec (a + b)) (hi : BitVec a) (lo : BitVec b) :
    matchesField v m (hi ++ lo) ↔
      matchesField (v.extractLsb' 0 b) (m.extractLsb' 0 b) lo ∧ matchesField (v.extractLsb' b a) (m.extractLsb' b a) hi := by
  unfold matchesField
  constructor
  · intro h
    refine ⟨fun k hk => ?_, fun k hk => ?_⟩
    · simpa [BitVec.getLsbD_append, BitVec.getLsbD_extractLsb', hk] using h k (by omega)
    · simpa [BitVec.getLsbD_append, BitVec.getLsbD_extractLsb', hk] using h (b + k) (by omega)
  · rintro ⟨hlo, hhi⟩ k hk
    by_cases hb : k < b
    · simpa [BitVec.getLsbD_append, BitVec.getLsbD_extractLsb', hb] using hlo k hb
    · obtain ⟨j, rfl⟩ := Nat.exists_eq_add_of_le (Nat.le_of_not_lt hb)
      have hj : j < a := by omega
      simpa [BitVec.getLsbD_append, BitVec.getLsbD_extractLsb', hj] using hhi j hj

theorem BusCycle.control_eq (c : BusCycle) : c.control = c.controlBus := by
  unfold BusCycle.control BusCycle.controlBus Size.mas
  cases c.size <;> rfl

/-- The lanes that a comparison looks at are those that are not left unused (61 R481). -/
theorem BusCycle.not_lanes (c : BusCycle) (big : Bool) : ~~~(c.lanes big) = c.unused big := by
  unfold BusCycle.lanes BusCycle.unused
  simp only [Bool.and_eq_true, beq_iff_eq]
  split
  · split <;> rfl
  · rfl

/-! ### One unit -/

theorem Watchpoint.matchesAccess_iff (w : Watchpoint) (c : BusCycle) : w.matchesAccess c = true ↔ w.accessMatch c := by
  unfold Watchpoint.matchesAccess Watchpoint.accessMatch
  rw [Bool.and_eq_true, fieldMatch_iff, fieldMatch_iff, BusCycle.control_eq]

theorem Watchpoint.matchesData_iff (w : Watchpoint) (c : BusCycle) (big range chain extern : Bool) :
    w.matchesData c big range chain extern = true ↔
      matchesField w.dataValue (w.dataMask ||| c.unused big) c.data ∧
        matchesField (w.ctrlValue.extractLsb' 5 3) (w.ctrlMask.extractLsb' 5 3)
          (BitVec.ofBool range ++ (BitVec.ofBool chain ++ BitVec.ofBool extern)) := by
  unfold Watchpoint.matchesData
  rw [Bool.and_eq_true, fieldMatch_iff, fieldMatch_iff, BusCycle.not_lanes]

/-- The eight control bits match where the bus control and the coupling inputs do (61 R482). -/
theorem Watchpoint.matchesControl_iff (w : Watchpoint) (c : BusCycle) (range chain extern : Bool) :
    matchesField (w.ctrlValue.extractLsb' 0 8) w.ctrlMask
        (BitVec.ofBool range ++ (BitVec.ofBool chain ++ (BitVec.ofBool extern ++ c.controlBus))) ↔
      matchesField (w.ctrlValue.extractLsb' 0 5) (w.ctrlMask.extractLsb' 0 5) c.controlBus ∧
        matchesField (w.ctrlValue.extractLsb' 5 3) (w.ctrlMask.extractLsb' 5 3)
          (BitVec.ofBool range ++ (BitVec.ofBool chain ++ BitVec.ofBool extern)) := by
  have hx : BitVec.ofBool range ++ (BitVec.ofBool chain ++ (BitVec.ofBool extern ++ c.controlBus)) =
      (BitVec.ofBool range ++ (BitVec.ofBool chain ++ BitVec.ofBool extern) : BitVec 3) ++ c.controlBus :=
    ((congrArg (BitVec.ofBool range ++ ·) (BitVec.append_assoc' ..)).trans (BitVec.append_assoc' ..))
  have hlo : (w.ctrlValue.extractLsb' 0 8).extractLsb' 0 5 = w.ctrlValue.extractLsb' 0 5 := by
    ext k hk; simp
  have hhi : (w.ctrlValue.extractLsb' 0 8).extractLsb' 5 3 = w.ctrlValue.extractLsb' 5 3 := by
    ext k hk; simp
  rw [hx, matchesField_append (a := 3) (b := 5), hlo, hhi]

/-- `UnitMatch` of 61 R483 is both comparisons of the model. -/
theorem Watchpoint.matches_iff (w : Watchpoint) (c : BusCycle) (big range chain extern : Bool) :
    (w.matchesAccess c && w.matchesData c big range chain extern) = true ↔ w.unitMatch big c range chain extern := by
  rw [Bool.and_eq_true, Watchpoint.matchesAccess_iff, Watchpoint.matchesData_iff, Watchpoint.unitMatch,
    Watchpoint.matchesControl_iff, Watchpoint.accessMatch]
  tauto

/-! ### A memory cycle -/

section Cycle

variable (t : State) (c : BusCycle)

theorem State.rangeOut_two_iff : (t.rangeOut c).2 = true ↔ t.dbg.wp1.unitMatch t.pins.bigend c
    (Config.wp1Range t.freeCtr c.place) (Config.wp1Chain t.freeCtr c.place) t.inp.extern1 :=
  Watchpoint.matches_iff ..

theorem State.rangeOut_one_iff : (t.rangeOut c).1 = true ↔
    t.dbg.wp0.unitMatch t.pins.bigend c (t.rangeOut c).2 t.dbg.chainOut t.inp.extern0 :=
  Watchpoint.matches_iff ..

variable (h : t.pins.dbgen = true)
include h

theorem State.iceCycle_on : t.iceCycle c =
    (c.breakpt || ((t.rangeOut c).1 && t.dbg.wp0.ctrlValue.getLsbD 8) || ((t.rangeOut c).2 && t.dbg.wp1.ctrlValue.getLsbD 8),
      { t with
        dbg := t.dbg.seen (t.inp.nTRST && (if t.dbg.wp1.matchesAccess c then (t.rangeOut c).2 else t.dbg.chainOut))
          (t.rangeOut c).1 (t.rangeOut c).2 }) := by
  unfold State.iceCycle
  rw [if_neg (by simp [h])]
  rfl

/-- Where BREAKPT reaches the core from: the pin, or an enabled unit that matches (61 R482, R483). -/
theorem State.iceCycle_breakpt_iff : (t.iceCycle c).1 = true ↔ c.breakpt = true ∨
    ((t.rangeOut c).1 = true ∧ t.dbg.wp0.ctrlValue.getLsbD 8 = true) ∨
      ((t.rangeOut c).2 = true ∧ t.dbg.wp1.ctrlValue.getLsbD 8 = true) := by
  rw [t.iceCycle_on c h]
  simp only [Bool.or_eq_true, Bool.and_eq_true, or_assoc]

theorem State.iceCycle_rangeOut0 : (t.iceCycle c).2.dbg.rangeOut0 = (t.rangeOut c).1 := by
  rw [t.iceCycle_on c h]; rfl

theorem State.iceCycle_rangeOut1 : (t.iceCycle c).2.dbg.rangeOut1 = (t.rangeOut c).2 := by
  rw [t.iceCycle_on c h]; rfl

/-- What the CHAINOUT latch holds after a memory cycle (61 R484, R503). -/
theorem State.iceCycle_chainOut : (t.iceCycle c).2.dbg.chainOut =
    (t.inp.nTRST && (if t.dbg.wp1.matchesAccess c then (t.rangeOut c).2 else t.dbg.chainOut)) := by
  rw [t.iceCycle_on c h]; rfl

end Cycle

end Sys2Proof.Machine
end

section
/-! What ICEBreaker and the end of an instruction do to the data accesses of a step (60 R436, step 10; 61 R473). -/

namespace Sys2Proof.Machine

section

variable (t : State)

/-- The data accesses of a step, oldest first, which are what ICEBreaker sees at its end. -/
def State.dataCycles : List BusCycle := t.bus.filter fun c => !c.fetch

theorem State.mem_dataCycles {c : BusCycle} : c ∈ t.dataCycles ↔ c ∈ t.bus ∧ c.fetch = false := by
  simp [State.dataCycles]

/-! ### Several memory cycles -/

theorem State.iceCycles_cons_fst (c : BusCycle) (cs : List BusCycle) :
    (t.iceCycles (c :: cs)).1 = ((t.iceCycle c).1 || ((t.iceCycle c).2.iceCycles cs).1) := rfl

theorem State.iceCycles_cons_snd (c : BusCycle) (cs : List BusCycle) :
    (t.iceCycles (c :: cs)).2 = ((t.iceCycle c).2.iceCycles cs).2 := rfl

/-- BREAKPT reaches the core in one of several memory cycles, as ICEBreaker finds it after those before. -/
theorem State.iceCycles_breakpt_iff (cs : List BusCycle) : (t.iceCycles cs).1 = true ↔
    ∃ (first after : List BusCycle) (c : BusCycle), cs = first ++ c :: after ∧
      ((t.iceCycles first).2.iceCycle c).1 = true := by
  induction cs generalizing t with
  | nil => simp [State.iceCycles]
  | cons d rest ih =>
    rw [State.iceCycles_cons_fst, Bool.or_eq_true, ih]
    constructor
    · rintro (h | ⟨first, after, c, rfl, h⟩)
      · exact ⟨[], rest, d, rfl, h⟩
      · exact ⟨d :: first, after, c, rfl, h⟩
    · rintro ⟨first, after, c, he, h⟩
      cases first with
      | nil =>
        obtain ⟨rfl, -⟩ := List.cons.inj he
        exact .inl h
      | cons e first =>
        obtain ⟨rfl, rfl⟩ := List.cons.inj he
        exact .inr ⟨first, after, c, rfl, h⟩

/-! ### The end of an instruction -/

variable (before : State)

/-- Without a watchpoint to take, an instruction ends with the fetch of a data abort's entry and the refill. -/
theorem State.endInstruction_unwatched (h : ((t.iceCycles t.dataCycles).1 && legalMode t.cpsr.m) = false) :
    t.endInstruction before = ((t.iceCycles t.dataCycles).2.abortFetch before).fillPipe 2 :=
  if_neg (Bool.not_eq_true _ ▸ h)

/-- A watchpoint ends in debug state, whether an abort, an interrupt or neither comes with it (61 R473, R476). -/
theorem State.endInstruction_watched (h : (t.iceCycles t.dataCycles).1 = true) (hm : legalMode t.cpsr.m = true) :
    (t.endInstruction before).dbg.active = true := by
  rw [State.dataCycles] at h
  unfold State.endInstruction
  dsimp only
  rw [if_pos (Bool.and_eq_true_iff.mpr ⟨h, hm⟩)]
  split
  · rfl
  · split <;> rfl

theorem State.endInstruction_no_data (h : t.dataCycles = []) : t.endInstruction before = t.fillPipe 2 := by
  rw [t.endInstruction_unwatched before (by rw [h]; rfl), h]
  have hn : ∀ c ∈ t.bus, c.fetch = false → c.aborted = false := fun c hc hf =>
    absurd (t.mem_dataCycles.mpr ⟨hc, hf⟩) (by simp [h])
  exact congrArg (State.fillPipe · 2) (t.abortFetch_none before hn)

theorem State.endInstruction_unaborted (h : (t.iceCycles t.dataCycles).1 = false)
    (ha : ∀ c ∈ t.dataCycles, c.aborted = false) :
    ∃ x y z : Bool, t.endInstruction before = ({ t with dbg := t.dbg.seen x y z } : State).fillPipe 2 := by
  obtain ⟨x, y, z, hs⟩ := t.iceCycles_state t.dataCycles
  refine ⟨x, y, z, ?_⟩
  rw [t.endInstruction_unwatched before (by rw [h]; rfl), hs, State.abortFetch_none]
  exact fun c hc hf => ha c (t.mem_dataCycles.mpr ⟨hc, hf⟩)

theorem State.endInstruction_aborted (h : (t.iceCycles t.dataCycles).1 = false)
    (ha : ∃ c ∈ t.dataCycles, c.aborted = true) :
    ∃ (x y z : Bool) (e : BusCycle), before.fetches e 3 ∧ t.endInstruction before =
      ({ t with bus := t.bus ++ [e], dbg := t.dbg.seen x y z } : State).fillPipe 2 := by
  obtain ⟨c, hc, hca⟩ := ha
  obtain ⟨hcb, hcf⟩ := t.mem_dataCycles.mp hc
  obtain ⟨x, y, z, hs⟩ := t.iceCycles_state t.dataCycles
  obtain ⟨x', y', z', e, he, hf, -⟩ :=
    State.abortFetch_some { t with dbg := t.dbg.seen x y z } before ⟨c, hcb, hcf, hca⟩
  refine ⟨x', y', z', e, he, ?_⟩
  rw [t.endInstruction_unwatched before (by rw [h]; rfl), hs, hf]
  rfl

/-- In an illegal mode the end of an instruction enters nothing (10 R39, log 60). -/
theorem State.endInstruction_illegal (hm : legalMode t.cpsr.m = false) :
    t.sameCore (t.endInstruction before) ∧ (t.endInstruction before).pc = t.pc ∧
      (t.endInstruction before).dbg.active = t.dbg.active := by
  obtain ⟨x, y, z, hs⟩ := t.iceCycles_state t.dataCycles
  obtain ⟨x', y', z', cs, ha⟩ := State.abortFetch_state { t with dbg := t.dbg.seen x y z } before
  obtain ⟨x'', y'', z'', e, q, cs', hf, -, -⟩ :=
    State.fillPipe_state { t with bus := t.bus ++ cs, dbg := (t.dbg.seen x y z).seen x' y' z' } 2
  rw [t.endInstruction_unwatched before (by rw [hm, Bool.and_false]), hs, ha, hf]
  exact ⟨⟨rfl, rfl, rfl, rfl⟩, rfl, rfl⟩

end

end Sys2Proof.Machine
end

section
/-! The step of a running core, up to the instruction that it executes (60 R436, steps 1 to 8). -/

namespace Sys2Proof.Machine

section

variable (s : State)

/-! ### The head of a filled queue -/

theorem State.head_of_get {q : Slot} (h : s.pipe[0]? = some q) : s.head = q := by
  unfold State.head
  cases hp : s.pipe with
  | nil => rw [hp] at h; cases h
  | cons a rest => rw [hp] at h; exact Option.some.inj h

/-- Each place of a filled queue holds what it held, or the opcode and the prefetch-abort mark of its fetch; the breakpoint
mark of a fetch is ICEBreaker's to set. -/
theorem State.fillPipe_get_slot (n k : Nat) (hk : k < n) : ∃ q : Slot, (s.fillPipe n).pipe[k]? = some q ∧
    q.opcode = (s.slot k).opcode ∧ q.aborted = (s.slot k).aborted ∧ (k < s.pipe.length → q = s.slot k) := by
  obtain ⟨hold, hnew⟩ := s.fillPipe_get n k hk
  by_cases hl : k < s.pipe.length
  · have hs : s.pipe[k]? = some (s.slot k) := by simp [State.slot, hl]
    exact ⟨s.slot k, (hold hl).trans hs, rfl, rfl, fun _ => rfl⟩
  · obtain ⟨b, -, hb⟩ := hnew (by omega)
    have hs : s.slot k = s.fetched k := by simp [State.slot, hl]
    exact ⟨_, hb, by rw [hs]; rfl, by rw [hs]; rfl, fun h => absurd h hl⟩

theorem State.prefetch_breakpoint (h : s.pipe = []) :
    s.prefetch.head.breakpoint = ((s.logCycle s.nextFetch).iceCycle s.nextFetch).1 := by
  unfold State.prefetch State.head
  rw [h]
  rfl

/-- A queue filled in two stages is the queue filled at once. -/
theorem State.fillPipe_fillPipe {m n : Nat} (h : m ≤ n) : (s.fillPipe m).fillPipe n = s.fillPipe n := by
  induction n, h using Nat.le_induction with
  | base => exact (s.fillPipe m).fillPipe_of_le m (by simp)
  | succ n hmn ih =>
    by_cases hl : s.pipe.length ≤ n
    · rw [State.fillPipe, if_pos (by rw [State.fillPipe_length]; omega), ih, State.fillPipe, if_pos hl]
    · rw [s.fillPipe_of_le m (by omega)]

/-- The breakpoint mark of the instruction about to execute, where it is to be fetched: none with both units disabled and
the pin LOW. -/
theorem State.fillPipe_breakpoint_of_nil (n : Nat) (hn : 0 < n) (h : s.pipe = []) (hb : s.bus = [])
    (h0 : s.dbg.wp0.ctrlValue.getLsbD 8 = false) (h1 : s.dbg.wp1.ctrlValue.getLsbD 8 = false)
    (hp : s.inp.breakpt.getD 0 false = false) : (s.fillPipe n).head.breakpoint = false := by
  have hone : s.fillPipe 1 = s.prefetch := if_pos (by simp [h])
  have hne : s.prefetch.pipe ≠ [] := by
    rw [← hone]
    exact List.ne_nil_of_length_pos (by simp [h])
  have hc : s.nextFetch.breakpt = false := by
    show s.inp.breakpt.getD s.bus.length false = false
    rw [hb]; exact hp
  rw [← s.fillPipe_fillPipe hn, hone, State.fillPipe_head _ _ hne, s.prefetch_breakpoint h]
  exact State.iceCycle_disabled _ _ h0 h1 hc

/-! ### No interrupt, and the step -/

theorem State.pendingInterrupt_of_not_ifen (nFIQ nIRQ : Bool) (h : s.ifen = false) :
    s.pendingInterrupt nFIQ nIRQ = none := by
  simp [State.pendingInterrupt, h]

/-- A quiet step takes no interrupt (60 R436, steps 5 and 6). -/
theorem State.pendingInterrupt_of_quiet (h : s.quiet) :
    s.beginStep.entryFetch.pendingInterrupt s.beginStep.inp.nFIQ s.beginStep.inp.nIRQ = none := by
  obtain ⟨x, y, z, e, q, cs, c, he, -, -⟩ := s.beginStep.entryFetch_state
  rw [he]
  rcases h with ⟨hd, hi⟩ | ⟨hf, hi⟩
  · exact State.pendingInterrupt_of_not_ifen _ _ _ (by simp [State.ifen, Debug.seen, hd, hi])
  · exact State.pendingInterrupt_none _ _ _ hf hi

/-- The step of a running core that takes no interrupt is steps 7 to 10 of 60 R436 on the filled queue. -/
theorem step_of_running_quiet (hr : s.running) (hq : s.quiet) :
    step s = (s.beginStep.fillPipe 3).instructionStep := by
  obtain ⟨hm, hc, hn, ht, hd⟩ := hr
  have hrun : step s = s.beginStep.runStep := by
    cases hg : s.pins.dbgen with
    | false => exact step_eq_runStep s hg hn hc
    | true =>
      obtain ⟨htrst, hidle⟩ := ht hg
      exact step_eq_runStep_idle s htrst hidle hn hc
  have hactive : (s.beginStep.pins.dbgen && s.beginStep.dbg.active) = false :=
    Bool.and_eq_false_imp.mpr fun hg => (hd hg).1
  have hrequest : (s.beginStep.pins.dbgen && s.beginStep.debugRequest) = false :=
    Bool.and_eq_false_imp.mpr fun hg => by
      obtain ⟨-, hlatch, hpin⟩ := hd hg
      exact Bool.or_eq_false_iff.mpr ⟨hpin, hlatch⟩
  rw [hrun, State.runStep, if_neg (by simp [hm]), if_neg (Bool.not_eq_true _ ▸ hactive),
    if_neg (Bool.not_eq_true _ ▸ hrequest),
    s.pendingInterrupt_of_quiet hq]

end

/-! ### The instruction that executes -/

section

variable {s : State}

theorem State.instructionStep_unmarked (ha : s.head.aborted = false) (hb : s.head.breakpoint = false) :
    s.instructionStep = s.executeNext := by
  rw [State.instructionStep, if_neg (by simp [ha]), if_neg (by simp [hb])]

/-- What a decoded instruction's step comes to, by the outcome of its execution. -/
theorem State.executeNext_of_decoded {i : Instr} (h : s.decodeNext = .ok i) :
    (∀ t : State, exec i s = .next t → s.executeNext = .next (t.endInstruction s)) ∧
      (∀ f : Fault, exec i s = .fault f → s.executeNext = .fault f) ∧
      (∀ e : Refusal, exec i s = .refused e → s.executeNext = .refused e) := by
  unfold State.executeNext
  rw [h]
  refine ⟨fun t ht => ?_, fun f hf => ?_, fun e he => ?_⟩
  · simp only [ht]
  · simp only [hf]
  · simp only [he]

/-- The instruction that executes is not marked, where its slot is not and, if it is still to be fetched, no breakpoint can
be set on it. -/
theorem State.fillPipe_unmarked (hb : s.bus = []) (ha : (s.slot 0).aborted = false) (hk : (s.slot 0).breakpoint = false)
    (hw : s.pipe = [] → s.dbg.wp0.ctrlValue.getLsbD 8 = false ∧ s.dbg.wp1.ctrlValue.getLsbD 8 = false ∧
      s.inp.breakpt.getD 0 false = false) :
    (s.fillPipe 3).head.aborted = false ∧ (s.fillPipe 3).head.breakpoint = false ∧
      (s.fillPipe 3).head.opcode = (s.slot 0).opcode := by
  obtain ⟨q, hq, hop, hab, hold⟩ := s.fillPipe_get_slot 3 0 (by omega)
  have hh := (s.fillPipe 3).head_of_get hq
  refine ⟨by rw [hh, hab, ha], ?_, by rw [hh, hop]⟩
  cases hp : s.pipe with
  | nil =>
    obtain ⟨h0, h1, hpin⟩ := hw hp
    exact s.fillPipe_breakpoint_of_nil 3 (by omega) hp hb h0 h1 hpin
  | cons a rest => rw [hh, hold (by simp [hp]), hk]

/-- The memory cycles that fill the queue of a step are fetches, one for each place that was empty. -/
theorem State.fillPipe_beginStep_bus (s : State) (n : Nat) :
    (s.beginStep.fillPipe n).bus.length = n - s.pipe.length ∧ ∀ c ∈ (s.beginStep.fillPipe n).bus, c.fetch = true := by
  obtain ⟨x, y, z, e, q, cs, h, hf, hl⟩ := s.beginStep.fillPipe_state n
  have hlen := s.beginStep.fillPipe_length n
  rw [h] at hlen ⊢
  simp only [State.beginStep_bus, State.beginStep_pipe, List.nil_append, List.length_append] at hlen ⊢
  exact ⟨by omega, hf⟩

theorem State.fillPipe_dbg_seen (s : State) (n : Nat) : ∃ x y z : Bool, (s.fillPipe n).dbg = s.dbg.seen x y z := by
  obtain ⟨x, y, z, e, q, cs, h, -, -⟩ := s.fillPipe_state n
  exact ⟨x, y, z, by rw [h]⟩

end

/-- Settles O10: the step up to the instruction, the end of the instruction, and one memory cycle as ICEBreaker sees it. -/
theorem stepWatchesDataAccesses : Obligations.StepWatchesDataAccesses := by
  unfold Obligations.StepWatchesDataAccesses
  refine ⟨?_, ?_, ?_⟩
  · intro s i inp b w _ hr hq ha hk hw hi
    obtain ⟨hab, hbr, hop⟩ := State.fillPipe_unmarked (s := b) rfl ha hk hw
    have hdec : (b.fillPipe 3).decodeNext = .ok i := by
      rw [State.decodeNext, State.opcode, hop, State.fillPipe_cpsr]
      exact hi
    obtain ⟨hnext, hfault, hrefused⟩ := State.executeNext_of_decoded hdec
    have hstep : step s = (b.fillPipe 3).executeNext :=
      (step_of_running_quiet s hr hq).trans (State.instructionStep_unmarked hab hbr)
    obtain ⟨hbus, hfetch⟩ := s.fillPipe_beginStep_bus 3
    refine ⟨b.fillPipe 3, fun t ht => hstep.trans (hnext t ht), fun f hf => hstep.trans (hfault f hf),
      fun e he => hstep.trans (hrefused e he), ?_⟩
    simp only [State.fillPipe_regs, State.fillPipe_pc, State.fillPipe_cpsr, State.fillPipe_spsrs, State.fillPipe_mem,
      State.fillPipe_pins, State.fillPipe_inp, State.fillPipe_env, State.fillPipe_hazard, State.fillPipe_cpLog]
    refine ⟨rfl, rfl, rfl, rfl, rfl, rfl, rfl, rfl, rfl, rfl, b.fillPipe_get_slot 3, fun hl => ?_, hbus, hfetch,
      b.fillPipe_dbg_seen 3⟩
    rw [State.fillPipe_length]
    exact Nat.max_eq_right hl
  · intro t before _
    exact ⟨t.endInstruction_no_data before, t.endInstruction_unaborted before, t.endInstruction_aborted before,
      t.endInstruction_watched before, t.endInstruction_illegal before, t.iceCycles_breakpt_iff t.dataCycles⟩
  · intro t c range1 hd big unit0 unit1 hrange
    have h1 : (t.rangeOut c).2 = true ↔ unit1 := t.rangeOut_two_iff c
    have he : (t.rangeOut c).2 = range1 := Bool.eq_iff_iff.mpr (h1.trans hrange.symm)
    have h0 : (t.rangeOut c).1 = true ↔ unit0 := by
      rw [t.rangeOut_one_iff c, he]
    rw [t.iceCycle_breakpt_iff c hd, t.iceCycle_rangeOut0 c hd, t.iceCycle_rangeOut1 c hd, t.iceCycle_chainOut c hd, h0, h1,
      ← t.dbg.wp1.matchesAccess_iff c]
    refine ⟨Iff.rfl, Iff.rfl, Iff.rfl, fun hn hm => ?_, fun hn hm => ?_, fun hn => by rw [hn]; rfl⟩
    · rw [hn, if_pos hm, Bool.true_and, h1]
    · rw [hn, if_neg hm, Bool.true_and]

end Sys2Proof.Machine
end

section
/-! What an instruction keeps of the debug state, whatever it is; and in isolation memory and the bus (61 R475, R493). -/

namespace Sys2Proof.Machine

/-! ### The relation -/

/-- The debug state without what an instruction may change of it: the comms channel (61 R499) and the words scanned in and
out (61 R493). -/
def Debug.core (g : Debug) : Debug :=
  { g with commsWrite := 0#32, commsR := false, commsW := false, scanIn := [], scanOut := [] }

/-- `t` has the debug state of `s` but for the comms channel and the scanned words and, if `s` is isolated, its memory and bus
cycles. -/
structure State.keepsDebug (s t : State) : Prop where
  core : t.dbg.core = s.dbg.core
  isolates : s.isolated = true → t.mem = s.mem ∧ t.bus = s.bus

section

variable {s t u : State}

theorem State.keepsDebug.active (h : s.keepsDebug t) : t.dbg.active = s.dbg.active :=
  show t.dbg.core.active = s.dbg.core.active from congrArg _ h.core

theorem State.keepsDebug.systemSpeed (h : s.keepsDebug t) : t.dbg.systemSpeed = s.dbg.systemSpeed :=
  show t.dbg.core.systemSpeed = s.dbg.core.systemSpeed from congrArg _ h.core

theorem State.keepsDebug.executed (h : s.keepsDebug t) : t.dbg.executed = s.dbg.executed :=
  show t.dbg.core.executed = s.dbg.core.executed from congrArg _ h.core

theorem State.keepsDebug.isolated_eq (h : s.keepsDebug t) : t.isolated = s.isolated := by
  rw [State.isolated, State.isolated, h.active, h.systemSpeed]

theorem State.keepsDebug.trans (h : s.keepsDebug t) (h' : t.keepsDebug u) : s.keepsDebug u where
  core := h'.core.trans h.core
  isolates hi := by
    obtain ⟨hm, hb⟩ := h.isolates hi
    obtain ⟨hm', hb'⟩ := h'.isolates (h.isolated_eq.trans hi)
    exact ⟨hm'.trans hm, hb'.trans hb⟩

/-- An update of the other parts of the state. -/
theorem State.keepsDebug.of_eq (hd : t.dbg = s.dbg) (hm : t.mem = s.mem) (hb : t.bus = s.bus) : s.keepsDebug t where
  core := congrArg Debug.core hd
  isolates _ := ⟨hm, hb⟩

theorem State.keepsDebug.refl (s : State) : s.keepsDebug s := .of_eq rfl rfl rfl

end

/-- The same of the state that an instruction comes to, where it does not stop. -/
def State.keepsDebugIn (s : State) (r : Result) : Prop := ∀ t : State, r = .next t → s.keepsDebug t

section

variable (s : State)

theorem State.keepsDebugIn_next {s t : State} (h : s.keepsDebug t) : s.keepsDebugIn (.next t) := by
  intro u hu
  cases hu
  exact h

theorem State.keepsDebugIn_fault (f : Fault) : s.keepsDebugIn (.fault f) := by
  intro t h
  cases h

theorem State.keepsDebugIn_refused (e : Refusal) : s.keepsDebugIn (.refused e) := by
  intro t h
  cases h

/-- What follows an update of the state. -/
theorem State.keepsDebugIn.after {s t : State} {r : Result} (h : t.keepsDebugIn r) (hs : s.keepsDebug t) :
    s.keepsDebugIn r :=
  fun u hu => hs.trans (h u hu)

/-! ### Operations without a data access -/

theorem State.keepsDebugIn_conditional (c : Cond) (k : State → Result) (h : s.keepsDebugIn (k s)) :
    s.keepsDebugIn (s.conditional c k) := by
  unfold State.conditional
  split
  · exact h
  · exact State.keepsDebugIn_next (.of_eq rfl rfl rfl)

theorem State.keepsDebug_finish (rd : Reg) (v : Word) : s.keepsDebug (s.finish rd v) :=
  .of_eq (s.finish_dbg rd v) (s.finish_mem rd v) (s.finish_bus rd v)

theorem State.keepsDebugIn_exceptionReturn (v : Word) : s.keepsDebugIn (s.exceptionReturn v) := by
  unfold State.exceptionReturn
  split
  · exact s.keepsDebugIn_fault _
  · exact State.keepsDebugIn_next (.of_eq rfl rfl rfl)

theorem State.keepsDebugIn_dataOp (op : AluOp) (c : Cond) (sf : Bool) (rn rd : Reg) (o : Op2) :
    s.keepsDebugIn (s.dataOp op c sf rn rd o) := by
  refine s.keepsDebugIn_conditional c _ ?_
  dsimp only
  split
  · exact s.keepsDebugIn_refused _
  · split
    · split
      · exact s.keepsDebugIn_exceptionReturn _
      · exact State.keepsDebugIn_next (.of_eq rfl rfl rfl)
    · exact State.keepsDebugIn_next (.of_eq rfl rfl rfl)

theorem State.keepsDebugIn_testP : s.keepsDebugIn s.testP := by
  unfold State.testP
  split
  · exact State.keepsDebugIn_next (.of_eq rfl rfl rfl)
  · split
    · exact s.keepsDebugIn_fault _
    · split
      · exact State.keepsDebugIn_next (.of_eq rfl rfl rfl)
      · exact s.keepsDebugIn_fault _

theorem State.keepsDebugIn_testOp (op : TestOp) (c : Cond) (rn rd : Reg) (o : Op2) :
    s.keepsDebugIn (s.testOp op c rn rd o) := by
  refine s.keepsDebugIn_conditional c _ ?_
  split
  · exact s.keepsDebugIn_refused _
  · split
    · exact s.keepsDebugIn_testP
    · exact State.keepsDebugIn_next (.of_eq rfl rfl rfl)

theorem State.keepsDebugIn_writeSpsr (f : Psr → Psr) : s.keepsDebugIn (s.writeSpsr f) := by
  unfold State.writeSpsr
  split
  · exact s.keepsDebugIn_fault _
  · exact State.keepsDebugIn_next (.of_eq rfl rfl rfl)

theorem State.keepsDebugIn_writeFlags (spsr : Bool) (w : Word) : s.keepsDebugIn (s.writeFlags spsr w) := by
  unfold State.writeFlags
  split
  · exact s.keepsDebugIn_writeSpsr _
  · exact State.keepsDebugIn_next (.of_eq rfl rfl rfl)

theorem State.keepsDebugIn_writeCpsr (w : Word) : s.keepsDebugIn (s.writeCpsr w) := by
  unfold State.writeCpsr
  split
  · split
    · exact State.keepsDebugIn_next (.of_eq rfl rfl rfl)
    · exact s.keepsDebugIn_fault _
  · exact State.keepsDebugIn_next (.of_eq rfl rfl rfl)

theorem State.keepsDebugIn_readPsr (spsr : Bool) (rd : Reg) : s.keepsDebugIn (s.readPsr spsr rd) := by
  unfold State.readPsr
  split
  · exact s.keepsDebugIn_fault _
  · exact State.keepsDebugIn_next (.of_eq rfl rfl rfl)

theorem State.keepsDebugIn_multiply (acc sf : Bool) (rd rn rs rm : Reg) :
    s.keepsDebugIn (s.multiply acc sf rd rn rs rm) := by
  unfold State.multiply
  split
  · exact s.keepsDebugIn_refused _
  · exact State.keepsDebugIn_next (.of_eq rfl rfl rfl)

theorem State.keepsDebugIn_multiplyLong (op : LongOp) (sf : Bool) (hi lo rs rm : Reg) :
    s.keepsDebugIn (s.multiplyLong op sf hi lo rs rm) := by
  unfold State.multiplyLong
  split
  · exact s.keepsDebugIn_refused _
  · exact State.keepsDebugIn_next (.of_eq rfl rfl rfl)

theorem State.keepsDebugIn_thumbExchange (r : Reg) : s.keepsDebugIn (s.thumbExchange r) := by
  unfold State.thumbExchange
  split
  · exact s.keepsDebugIn_fault _
  · exact State.keepsDebugIn_next (.of_eq rfl rfl rfl)

theorem State.keepsDebugIn_thumbBranchIf (c : Cond) (off : BitVec 8) : s.keepsDebugIn (s.thumbBranchIf c off) := by
  refine State.keepsDebugIn_next ?_
  split
  · exact .of_eq rfl rfl rfl
  · exact .of_eq rfl rfl rfl

/-! ### Single data accesses -/

/-- A read records a bus cycle outside isolation, and in isolation takes a word that was scanned in. -/
theorem State.keepsDebug_dataRead (z : Size) (a : Word) (p l : Bool) : s.keepsDebug (s.dataRead z a p l).2 where
  core := by
    rcases s.dataRead_cases z a p l with ⟨v, c, -, h, -⟩ | ⟨v, -, h⟩
    · rw [h]; rfl
    · rw [h]; rfl
  isolates hi := ⟨s.dataRead_mem z a p l, s.dataRead_bus_of_isolated z a p l hi⟩

/-- A write reaches memory and the bus outside isolation, and in isolation the words scanned out. -/
theorem State.keepsDebug_dataWrite (z : Size) (a v : Word) (p l : Bool) : s.keepsDebug (s.dataWrite z a v p l).2 where
  core := by
    unfold State.dataWrite
    split
    · rfl
    · split
      · rfl
      · rfl
  isolates hi := s.dataWrite_of_isolated z a v p l hi

theorem State.keepsDebug_writeBase (wb : Bool) (rn : Reg) (v : Word) : s.keepsDebug (s.writeBase wb rn v) :=
  .of_eq (s.writeBase_dbg wb rn v) (s.writeBase_mem wb rn v) (s.writeBase_bus wb rn v)

theorem State.keepsDebugIn_loadInto (k : LoadKind) (p : Bool) (rd : Reg) (a : Word) :
    s.keepsDebugIn (s.loadInto k p rd a) := by
  have h := s.keepsDebug_dataRead k.size a p false
  unfold State.loadInto
  split
  · next t e => rw [e] at h; exact State.keepsDebugIn_next (h.trans (.of_eq rfl rfl rfl))
  · next v t e => rw [e] at h; exact State.keepsDebugIn_next (h.trans (t.keepsDebug_finish _ _))

theorem State.keepsDebugIn_storeFrom (z : Size) (p : Bool) (a v : Word) : s.keepsDebugIn (s.storeFrom z p a v) := by
  have h := s.keepsDebug_dataWrite z a v p false
  unfold State.storeFrom
  split
  · exact s.keepsDebugIn_fault _
  · split
    · next t e => rw [e] at h; exact State.keepsDebugIn_next (h.trans (.of_eq rfl rfl rfl))
    · next t e => rw [e] at h; exact State.keepsDebugIn_next (h.trans (.of_eq rfl rfl rfl))

theorem State.keepsDebugIn_loadSingle (k : LoadKind) (unpriv p u w : Bool) (rn rd : Reg) (o : Offset) :
    s.keepsDebugIn (s.loadSingle k unpriv p u w rn rd o) := by
  unfold State.loadSingle
  split
  · exact s.keepsDebugIn_refused _
  · split
    · exact s.keepsDebugIn_refused _
    · exact (State.keepsDebugIn_loadInto _ _ _ _ _).after (s.keepsDebug_writeBase _ _ _)

theorem State.keepsDebugIn_storeSingle (z : Size) (unpriv p u w : Bool) (rn rd : Reg) (o : Offset) :
    s.keepsDebugIn (s.storeSingle z unpriv p u w rn rd o) := by
  unfold State.storeSingle
  split
  · exact s.keepsDebugIn_refused _
  · split
    · exact s.keepsDebugIn_refused _
    · exact (State.keepsDebugIn_storeFrom _ _ _ _ _).after (s.keepsDebug_writeBase _ _ _)

theorem State.keepsDebugIn_loadHalf (k : LoadKind) (p u w : Bool) (rn rd : Reg) (o : HalfOffset) :
    s.keepsDebugIn (s.loadHalf k p u w rn rd o) := by
  unfold State.loadHalf
  split
  · exact s.keepsDebugIn_refused _
  · exact (State.keepsDebugIn_loadInto _ _ _ _ _).after (s.keepsDebug_writeBase _ _ _)

theorem State.keepsDebugIn_storeHalf (p u w : Bool) (rn rd : Reg) (o : HalfOffset) :
    s.keepsDebugIn (s.storeHalf p u w rn rd o) := by
  unfold State.storeHalf
  split
  · exact s.keepsDebugIn_refused _
  · exact (State.keepsDebugIn_storeFrom _ _ _ _ _).after (s.keepsDebug_writeBase _ _ _)

/-- A swap. Its write after an aborted read is on the bus without `dataWrite`, but no read in isolation aborts. -/
theorem State.keepsDebugIn_swap (k : LoadKind) (rn rd rm : Reg) : s.keepsDebugIn (s.swap k rn rd rm) := by
  have h := s.keepsDebug_dataRead k.size (s.operand rn) s.privileged true
  have hc := s.dataRead_cases k.size (s.operand rn) s.privileged true
  unfold State.swap
  split
  · exact s.keepsDebugIn_refused _
  · dsimp only
    split
    · next t e =>
      rw [e] at h hc
      have hi : s.isolated = false := by
        rcases hc with ⟨v, c, hi, -, -⟩ | ⟨v, -, hv⟩
        · exact hi
        · cases hv
      exact State.keepsDebugIn_next ⟨h.core, fun hi' => absurd hi' (by simp [hi])⟩
    · next v t e =>
      rw [e] at h
      have h' := h.trans (t.keepsDebug_dataWrite k.size (s.operand rn) (s.operand rm) s.privileged true)
      split
      · next t' e' => rw [e'] at h'; exact State.keepsDebugIn_next (h'.trans (.of_eq rfl rfl rfl))
      · next t' e' => rw [e'] at h'; exact State.keepsDebugIn_next (h'.trans (.of_eq rfl rfl rfl))

/-! ### Several data accesses -/

theorem LoadProgress.load_keepsDebug (q : LoadProgress) (ub : Bool) (a : Word) (r : Reg) :
    q.state.keepsDebug (q.load ub a r).state := by
  have h := q.state.keepsDebug_dataRead .word a q.state.privileged false
  unfold LoadProgress.load
  split
  · next t e => rw [e] at h; exact h
  · next v t e =>
    rw [e] at h
    split
    · exact h
    · split
      · exact h
      · cases ub with
        | false => exact h.trans (.of_eq rfl rfl rfl)
        | true => exact h.trans (.of_eq rfl rfl rfl)

theorem LoadProgress.loadAll_keepsDebug (ub : Bool) (rs : List Reg) : ∀ (q : LoadProgress) (a : Word),
    q.state.keepsDebug (q.loadAll ub a rs).state := by
  induction rs with
  | nil => exact fun q _ => .refl q.state
  | cons r rest ih => exact fun q a => (q.load_keepsDebug ub a r).trans (ih _ _)

theorem State.keepsDebug_storeAll (vs : List Word) : ∀ (s : State) (b : Bool) (a : Word),
    s.keepsDebug (s.storeAll b a vs).2 := by
  induction vs with
  | nil => exact fun s _ _ => .refl s
  | cons v rest ih => exact fun s b a => (s.keepsDebug_dataWrite .word a v s.privileged false).trans (ih _ _ _)

theorem State.keepsDebugIn_loadMultiple (p u sf w : Bool) (rn : Reg) (list : BitVec 16) :
    s.keepsDebugIn (s.loadMultiple p u sf w rn list) := by
  unfold State.loadMultiple
  dsimp only
  split
  · exact s.keepsDebugIn_refused _
  · split
    · exact s.keepsDebugIn_fault _
    · split
      · exact s.keepsDebugIn_fault _
      · have h := (s.keepsDebug_writeBase w rn (blockFinal u (s.operand rn) (listBytes list))).trans
          (LoadProgress.loadAll_keepsDebug (sf && !list.getLsbD 15) (regList list) ⟨_, false, 0#32⟩
            (blockStart p u (s.operand rn) (listBytes list)))
        split
        · exact State.keepsDebugIn_next (h.trans (.of_eq rfl rfl rfl))
        · split
          · split
            · exact (State.keepsDebugIn_exceptionReturn _ _).after h
            · exact State.keepsDebugIn_next (h.trans (.of_eq rfl rfl rfl))
          · exact State.keepsDebugIn_next (h.trans (.of_eq rfl rfl rfl))

theorem State.keepsDebugIn_storeMultiple (p u sf w : Bool) (rn : Reg) (list : BitVec 16) :
    s.keepsDebugIn (s.storeMultiple p u sf w rn list) := by
  unfold State.storeMultiple
  split
  · exact s.keepsDebugIn_refused _
  · split
    · exact s.keepsDebugIn_fault _
    · dsimp only
      generalize hr : s.storeAll false _ _ = r
      have h : s.keepsDebug r.2 := hr ▸ State.keepsDebug_storeAll _ s false _
      have h' := h.trans (r.2.keepsDebug_writeBase w rn (blockFinal u (s.operand rn) (listBytes list)))
      refine State.keepsDebugIn_next ?_
      split
      · exact h'.trans (.of_eq rfl rfl rfl)
      · exact h'.trans (.of_eq rfl rfl rfl)

/-! ### Coprocessor instructions -/

theorem State.keepsDebugIn_offer (cp : BitVec 4) (k : Word → List Word → Result)
    (h : ∀ (v : Word) (vs : List Word), s.keepsDebugIn (k v vs)) : s.keepsDebugIn (s.offer cp k) := by
  unfold State.offer
  split
  · exact State.keepsDebugIn_next (.of_eq rfl rfl rfl)
  · split
    · exact State.keepsDebugIn_next (.of_eq rfl rfl rfl)
    · exact State.keepsDebugIn_next (.refl s)
    · exact h _ _

theorem State.keepsDebug_coprocLoad (vs : List Word) : ∀ (s : State) (got : List Word) (a : Word),
    s.keepsDebug (s.coprocLoad got a vs).2.2 := by
  induction vs with
  | nil => exact fun s _ _ => .refl s
  | cons v rest ih =>
    intro s got a
    have h := s.keepsDebug_dataRead .word a s.privileged false
    unfold State.coprocLoad
    split
    · next t e => rw [e] at h; exact h
    · next w t e => rw [e] at h; exact h.trans (ih t _ _)

theorem State.keepsDebug_coprocStore (vs : List Word) : ∀ (s : State) (a : Word),
    s.keepsDebug (s.coprocStore a vs).2 := by
  induction vs with
  | nil => exact fun s _ => .refl s
  | cons v rest ih =>
    intro s a
    have h := s.keepsDebug_dataWrite .word a v s.privileged false
    unfold State.coprocStore
    dsimp only
    split
    · exact h
    · exact h.trans (ih _ _)

theorem State.keepsDebug_receive (rd : Reg) (v : Word) : s.keepsDebug (s.receive rd v) := by
  unfold State.receive
  split
  · exact .of_eq rfl rfl rfl
  · exact .of_eq rfl rfl rfl

theorem execStc_keepsDebug (c : Cond) (p u n w : Bool) (rn : Reg) (crd cp : BitVec 4) (off : BitVec 8) :
    s.keepsDebugIn (execStc c p u n w rn crd cp off s) := by
  refine s.keepsDebugIn_conditional c _ ?_
  split
  · exact s.keepsDebugIn_refused _
  · refine s.keepsDebugIn_offer cp _ fun v vs => ?_
    dsimp only
    generalize hr : State.coprocStore _ _ (v :: vs) = r
    have h : s.keepsDebug r.2 :=
      (s.keepsDebug_writeBase w rn _).trans (hr ▸ State.keepsDebug_coprocStore (v :: vs) _ _)
    refine State.keepsDebugIn_next ?_
    split
    · exact h.trans (.of_eq rfl rfl rfl)
    · exact h.trans (.of_eq rfl rfl rfl)

theorem execLdc_keepsDebug (c : Cond) (p u n w : Bool) (rn : Reg) (crd cp : BitVec 4) (off : BitVec 8) :
    s.keepsDebugIn (execLdc c p u n w rn crd cp off s) := by
  refine s.keepsDebugIn_conditional c _ ?_
  split
  · exact s.keepsDebugIn_refused _
  · refine s.keepsDebugIn_offer cp _ fun v vs => ?_
    dsimp only
    generalize hr : State.coprocLoad _ [] _ (v :: vs) = r
    have h : s.keepsDebug r.2.2 :=
      (s.keepsDebug_writeBase w rn _).trans (hr ▸ State.keepsDebug_coprocLoad (v :: vs) _ _ _)
    refine State.keepsDebugIn_next ?_
    split
    · exact h.trans (.of_eq rfl rfl rfl)
    · exact h.trans (.of_eq rfl rfl rfl)

theorem execMcr_keepsDebug (c : Cond) (opc : BitVec 3) (crn : BitVec 4) (rd : Reg) (cp : BitVec 4) (info : BitVec 3)
    (crm : BitVec 4) : s.keepsDebugIn (execMcr c opc crn rd cp info crm s) := by
  refine s.keepsDebugIn_conditional c _ ?_
  split
  · exact State.keepsDebugIn_next ⟨rfl, fun _ => ⟨rfl, rfl⟩⟩
  · exact s.keepsDebugIn_offer cp _ fun _ _ => State.keepsDebugIn_next (.of_eq rfl rfl rfl)

theorem execMrc_keepsDebug (c : Cond) (opc : BitVec 3) (crn : BitVec 4) (rd : Reg) (cp : BitVec 4) (info : BitVec 3)
    (crm : BitVec 4) : s.keepsDebugIn (execMrc c opc crn rd cp info crm s) := by
  refine s.keepsDebugIn_conditional c _ ?_
  split
  · exact State.keepsDebugIn_next (s.keepsDebug_receive _ _)
  · split
    · have h : s.keepsDebug { s with dbg := { s.dbg with commsR := false } } := ⟨rfl, fun _ => ⟨rfl, rfl⟩⟩
      exact State.keepsDebugIn_next (h.trans (State.keepsDebug_receive _ _ _))
    · refine s.keepsDebugIn_offer cp _ fun v _ => ?_
      have h : s.keepsDebug (s.logEvent (.fromCoprocessor cp opc crn info crm v)) := .of_eq rfl rfl rfl
      exact State.keepsDebugIn_next (h.trans (State.keepsDebug_receive _ _ _))

end

/-! ### Every instruction -/

/-- No instruction changes the debug state but for the comms channel and the scanned words; in isolation none changes memory
or makes a bus cycle (61 R475, R493). The cases are grouped by the operation that the instructions share. -/
theorem exec_keepsDebug (i : Instr) (s : State) : s.keepsDebugIn (exec i s) := by
  unfold exec
  cases i with
  | andImm | andShift | andReg | eorImm | eorShift | eorReg | subImm | subShift | subReg | rsbImm | rsbShift | rsbReg
  | addImm | addShift | addReg | adcImm | adcShift | adcReg | sbcImm | sbcShift | sbcReg | rscImm | rscShift | rscReg
  | orrImm | orrShift | orrReg | movImm | movShift | movReg | bicImm | bicShift | bicReg | mvnImm | mvnShift | mvnReg =>
    exact s.keepsDebugIn_dataOp _ _ _ _ _ _
  | tstImm | tstShift | tstReg | teqImm | teqShift | teqReg | cmpImm | cmpShift | cmpReg | cmnImm | cmnShift | cmnReg =>
    exact s.keepsDebugIn_testOp _ _ _ _ _
  | strImmPre | strImmPost | strtImm | strRegPre | strRegPost | strtReg | strbImmPre | strbImmPost | strbtImm | strbRegPre
  | strbRegPost | strbtReg =>
    exact s.keepsDebugIn_conditional _ _ (s.keepsDebugIn_storeSingle _ _ _ _ _ _ _ _)
  | ldrImmPre | ldrImmPost | ldrtImm | ldrRegPre | ldrRegPost | ldrtReg | ldrbImmPre | ldrbImmPost | ldrbtImm | ldrbRegPre
  | ldrbRegPost | ldrbtReg =>
    exact s.keepsDebugIn_conditional _ _ (s.keepsDebugIn_loadSingle _ _ _ _ _ _ _ _)
  | strhReg | strhImm => exact s.keepsDebugIn_conditional _ _ (s.keepsDebugIn_storeHalf _ _ _ _ _ _)
  | ldrhReg | ldrhImm | ldrsbReg | ldrsbImm | ldrshReg | ldrshImm =>
    exact s.keepsDebugIn_conditional _ _ (s.keepsDebugIn_loadHalf _ _ _ _ _ _ _)
  | stm => exact s.keepsDebugIn_conditional _ _ (s.keepsDebugIn_storeMultiple _ _ _ _ _ _)
  | ldm => exact s.keepsDebugIn_conditional _ _ (s.keepsDebugIn_loadMultiple _ _ _ _ _ _)
  | swp | swpb => exact s.keepsDebugIn_conditional _ _ (s.keepsDebugIn_swap _ _ _ _)
  | mul | mla => exact s.keepsDebugIn_conditional _ _ (s.keepsDebugIn_multiply _ _ _ _ _ _)
  | umull | umlal | smull | smlal => exact s.keepsDebugIn_conditional _ _ (s.keepsDebugIn_multiplyLong _ _ _ _ _ _)
  | mrs =>
    refine s.keepsDebugIn_conditional _ _ ?_
    split
    · exact s.keepsDebugIn_refused _
    · exact s.keepsDebugIn_readPsr _ _
  | msrReg =>
    refine s.keepsDebugIn_conditional _ _ ?_
    split
    · exact s.keepsDebugIn_refused _
    · split
      · exact s.keepsDebugIn_writeSpsr _
      · exact s.keepsDebugIn_writeCpsr _
  | msrFlagsReg =>
    refine s.keepsDebugIn_conditional _ _ ?_
    split
    · exact s.keepsDebugIn_refused _
    · exact s.keepsDebugIn_writeFlags _ _
  | msrFlagsImm => exact s.keepsDebugIn_conditional _ _ (s.keepsDebugIn_writeFlags _ _)
  | bx =>
    refine s.keepsDebugIn_conditional _ _ ?_
    split
    · exact s.keepsDebugIn_refused _
    · exact State.keepsDebugIn_next (.of_eq rfl rfl rfl)
  | b | bl | swi | undef =>
    exact s.keepsDebugIn_conditional _ _ (State.keepsDebugIn_next (.of_eq rfl rfl rfl))
  | cdp =>
    exact s.keepsDebugIn_conditional _ _
      (s.keepsDebugIn_offer _ _ fun _ _ => State.keepsDebugIn_next (.of_eq rfl rfl rfl))
  | stc => exact execStc_keepsDebug s _ _ _ _ _ _ _ _ _
  | ldc => exact execLdc_keepsDebug s _ _ _ _ _ _ _ _ _
  | mcr => exact execMcr_keepsDebug s _ _ _ _ _ _ _
  | mrc => exact execMrc_keepsDebug s _ _ _ _ _ _ _
  | tLslImm | tLsrImm | tAsrImm | tAddReg | tSubReg | tAddImm3 | tSubImm3 | tMovImm | tCmpImm | tAddImm8 | tSubImm8
  | tAnd | tEor | tLslReg | tLsrReg | tAsrReg | tAdc | tSbc | tRorReg | tTst | tNeg | tCmp | tCmn | tOrr | tMul | tBic
  | tMvn | tCmpLoHi | tCmpHiLo | tCmpHiHi | tB | tBlHigh | tBlLow | tSwi | tUndefCond | tUndefB1 | tUndefB2 | tUndefB6
  | tUndefB8 | tUndefBe | tUndefE8 =>
    exact State.keepsDebugIn_next (.of_eq rfl rfl rfl)
  | tAddLoHi | tAddHiLo | tAddHiHi | tMovLoHi | tMovHiLo | tMovHiHi | tAddPc | tAddSp | tAddSpPos | tAddSpNeg =>
    exact State.keepsDebugIn_next (s.keepsDebug_finish _ _)
  | tAddLoLo | tCmpLoLo | tMovLoLo | tBxH1 => exact s.keepsDebugIn_refused _
  | tBxLo | tBxHi => exact s.keepsDebugIn_thumbExchange _
  | tBeq | tBne | tBcs | tBcc | tBmi | tBpl | tBvs | tBvc | tBhi | tBls | tBge | tBlt | tBgt | tBle =>
    exact s.keepsDebugIn_thumbBranchIf _ _
  | tLdrPc | tLdrReg | tLdrbReg | tLdrhReg | tLdsbReg | tLdshReg | tLdrImm | tLdrbImm | tLdrhImm | tLdrSp =>
    exact s.keepsDebugIn_loadInto _ _ _ _
  | tStrReg | tStrbReg | tStrhReg | tStrImm | tStrbImm | tStrhImm | tStrSp => exact s.keepsDebugIn_storeFrom _ _ _ _
  | tPush | tPushLr | tStmia => exact s.keepsDebugIn_storeMultiple _ _ _ _ _ _
  | tPop | tPopPc | tLdmia => exact s.keepsDebugIn_loadMultiple _ _ _ _ _ _

end Sys2Proof.Machine
end

section
/-! O57: what the debugger's scans make the stopped core do (61 R493, R495, R496). -/

namespace Sys2Proof.Machine

/-! ### The step of a stopped core -/

/-- The core is in debug state in the step that begins here: out of reset, in a legal mode, with DBGEN and nTRST HIGH. -/
structure State.stopped (s : State) : Prop where
  dbgen : s.pins.dbgen = true
  mode : legalMode s.cpsr.m = true
  resetCycles : s.resetCycles = 0
  nRESET : (s.env.headD Inputs.inactive).nRESET = true
  nTRST : (s.env.headD Inputs.inactive).nTRST = true
  active : s.dbg.active = true

theorem State.tapStep_eq_tapCommand (s : State) (hg : s.pins.dbgen = true) (ht : s.inp.nTRST = true) :
    s.tapStep = s.tapCommand s.inp.dbg := by
  unfold State.tapStep State.debugCommand
  rw [if_neg (by simp [hg]), if_pos ht, if_pos ht]

theorem State.tapCommand_loadIr (s : State) (ir : BitVec 4) : ∃ g : Debug,
    s.tapCommand (.loadIr ir) = some { s with dbg := g } ∧ g.active = s.dbg.active ∧ g.executed = s.dbg.executed ∧
      g.pending = s.dbg.pending :=
  ⟨_, rfl, rfl, rfl, rfl⟩

theorem State.tapCommand_runTestIdle (s : State) : ∃ g : Debug,
    s.tapCommand .runTestIdle = some { s with dbg := g } ∧ g.active = s.dbg.active ∧ g.executed = s.dbg.executed ∧
      g.pending = s.dbg.pending ∧ g.tapIr = s.dbg.tapIr :=
  ⟨_, rfl, rfl, rfl, rfl, rfl⟩

/-- The step of a stopped core is step 3 of 60 R436, on the debug state that the TAP leaves. -/
theorem step_of_stopped {s : State} (h : s.stopped) (g : Debug) (hg : g.active = true)
    (htap : s.beginStep.tapCommand (s.env.headD Inputs.inactive).dbg = some { s.beginStep with dbg := g }) :
    step s = State.debugStep { s.beginStep with dbg := g } := by
  obtain ⟨hd, hm, hc, hn, ht, -⟩ := h
  have hs : s.beginStep.tapStep = some { s.beginStep with dbg := g } :=
    (s.beginStep.tapStep_eq_tapCommand hd ht).trans htap
  show s.cycle = _
  unfold State.cycle
  rw [hs]
  dsimp only
  rw [if_neg (by rw [State.beginStep_inp, hn]; decide), if_pos (show s.beginStep.resetCycles = 0 from hc), State.runStep,
    if_neg (by simp [hm]), if_pos (by simp [hd, hg])]

theorem State.debugCommand_of_stopped {s : State} (h : s.stopped) (g : Debug) :
    State.debugCommand { s.beginStep with dbg := g } = (s.env.headD Inputs.inactive).dbg :=
  if_pos h.nTRST

/-! ### What each command does with the core -/

section

variable {s u : State} {i : Instr} {w : Word}

theorem State.scanStep_executes {bit33 : Bool} {data : List Word} (hr : s.dbg.refill = 0) (hb : s.dbg.scanned33 = false)
    (hi : s.decodeScan w = .ok i) (hbr : debugUse i ≠ .branch) (hil : debugUse i ≠ .illegal)
    (hu : exec i (s.armScan w data) = .next u) : s.scanStep bit33 w data = .next (u.settleScan bit33) := by
  unfold State.scanStep
  rw [if_neg (by simp [hr]), if_neg (by simp [hb]), hi]
  dsimp only
  rw [if_neg (by simp [hbr, hil]), hu]

theorem State.scanStep_waits (bit33 : Bool) (data : List Word) (hr : s.dbg.refill = 0) (hb : s.dbg.scanned33 = true) :
    s.scanStep bit33 w data =
      .next { s with dbg := { s.dbg with pending := some w, pendingData := data, scanned33 := bit33 } } := by
  rw [State.scanStep, if_neg (by simp [hr]), if_pos hb]

/-- The state in which an instruction executes at system speed: outside the isolation, with nothing scanned in. -/
def State.armAccess (s : State) (w : Word) : State := { s.armScan w [] with dbg := { s.dbg with systemSpeed := true } }

theorem State.accessStep_executes (hi : s.decodeScan w = .ok i) (ha : debugUse i = .access)
    (hu : exec i (s.armAccess w) = .next u) : s.accessStep w = .next u.settleAccess := by
  unfold State.accessStep
  rw [hi]
  dsimp only
  rw [if_pos ha]
  unfold State.armAccess at hu
  rw [hu]

/-- The state in which debug state is left, once its final branch has executed. -/
def State.leaveDebug (s : State) : State :=
  { s with
    pipe := []
    dbg := { s.dbg with
      active := false, pending := none, pendingData := [], scanned33 := false, executed := 0, refill := 0 } }

theorem State.leaveStep_executes (hi : s.decodeScan w = .ok i) (hb : debugUse i = .branch ∨ debugUse i = .writesPc)
    (he : 2 ≤ s.dbg.executed) (hu : exec i (s.armScan w []) = .next u) : s.leaveStep w = .next u.leaveDebug := by
  unfold State.leaveStep
  rw [hi]
  dsimp only
  rw [if_pos (by simp [he, hb]), hu]
  rfl

end

/-- What an access at system speed that is not aborted settles to: the registers and memory of the instruction's end, back in
the isolation of debug state. -/
theorem State.settleAccess_of_not_aborted (s : State) (h : ∀ c ∈ s.bus, c.aborted = false) : ∃ x y z : Bool,
    s.settleAccess =
      { s with
        pc := if s.pipe.isEmpty then s.pc else s.pc + s.instrBytes + s.instrBytes
        pipe := []
        dbg :=
          { s.dbg.seen x y z with
            systemSpeed := false
            captured33 := true
            scanned33 := false
            pending := none
            pendingData := []
            executed := s.dbg.executed + 1
            refill := if s.pipe.isEmpty then 2 else 0 } } := by
  have ha : (s.bus.any fun c => c.aborted) = false := by simpa using h
  obtain ⟨x, y, z, hs⟩ := s.iceCycles_state s.bus
  refine ⟨x, y, z, ?_⟩
  unfold State.settleAccess
  dsimp only
  rw [hs, ha]
  rfl

/-! ### The step of each command -/

section

variable {s : State} {w : Word} (h : s.stopped)
include h

/-- A scan of chain 1 leaves the TAP as it is, where the chain and INTEST are selected and no instruction waits. -/
theorem step_of_scan {bit33 : Bool} {data : List Word} (hc : (s.env.headD Inputs.inactive).dbg = .scan bit33 w data)
    (hs : s.dbg.scanSelect = 1#4) (hir : s.dbg.tapIr = 0b1100#4) (hp : s.dbg.pending = none) :
    step s = s.beginStep.scanStep bit33 w data := by
  have htap : s.beginStep.tapCommand (s.env.headD Inputs.inactive).dbg = some s.beginStep := by
    rw [hc, State.tapCommand, if_pos (by simp [h.active, hs, hir, hp, tapIntest])]
  rw [step_of_stopped h s.beginStep.dbg h.active htap, State.debugStep, State.debugCommand_of_stopped h, hc]

/-- BYPASS makes the waiting instruction execute at system speed. -/
theorem step_of_bypass (hc : (s.env.headD Inputs.inactive).dbg = .loadIr 0b1111#4) (hp : s.dbg.pending = some w) :
    ∃ g : Debug, g.active = true ∧ g.executed = s.dbg.executed ∧
      step s = State.accessStep { s.beginStep with dbg := g } w := by
  obtain ⟨g, htap, ha, he, hw⟩ := s.beginStep.tapCommand_loadIr 0b1111#4
  refine ⟨g, ha.trans h.active, he, (step_of_stopped h g (ha.trans h.active) (hc ▸ htap)).trans ?_⟩
  rw [State.debugStep, State.debugCommand_of_stopped h, hc]
  dsimp only
  rw [hw, State.beginStep_dbg, hp]
  exact if_pos (by decide)

/-- RUN-TEST/IDLE with RESTART loaded makes the waiting instruction execute as the final branch. -/
theorem step_of_restart (hc : (s.env.headD Inputs.inactive).dbg = .runTestIdle) (hir : s.dbg.tapIr = 0b0100#4)
    (hp : s.dbg.pending = some w) :
    ∃ g : Debug, g.executed = s.dbg.executed ∧ step s = State.leaveStep { s.beginStep with dbg := g } w := by
  obtain ⟨g, htap, ha, he, hw, ht⟩ := s.beginStep.tapCommand_runTestIdle
  refine ⟨g, he, (step_of_stopped h g (ha.trans h.active) (hc ▸ htap)).trans ?_⟩
  rw [State.debugStep, State.debugCommand_of_stopped h, hc]
  dsimp only
  rw [if_pos (show g.tapIr = tapRestart from ht.trans hir), hw, State.beginStep_dbg, hp]

end

/-- Settles O57: the step of each command of the debugger, and what its instruction keeps of the debug state. -/
theorem debugStateExecution : Obligations.DebugStateExecution := by
  unfold Obligations.DebugStateExecution
  intro s i w inp b hg hm hc hn ht ha hsys hi
  have h : s.stopped := ⟨hg, hm, hc, hn, ht, ha⟩
  refine ⟨fun bit33 data hcmd hsel hir hp hr => ⟨fun hb hbr hil => ?_, fun hb => ?_⟩, fun hp huse hcmd => ?_,
    fun hp huse hir he hcmd => ?_⟩
  · have hiso : (b.armScan w data).isolated = true := by
      show (s.dbg.active && !s.dbg.systemSpeed) = true
      rw [ha, hsys]
      rfl
    refine ⟨b.armScan w data, ⟨rfl, rfl, rfl, rfl⟩, rfl, hiso, rfl, rfl, fun u hu => ?_⟩
    have hk := exec_keepsDebug i _ u hu
    obtain ⟨hmem, hbus⟩ := hk.isolates hiso
    exact ⟨u.settleScan bit33,
      (step_of_scan h hcmd hsel hir hp).trans (State.scanStep_executes hr hb hi hbr hil hu),
      ⟨rfl, rfl, rfl, rfl⟩, hmem, hbus, rfl, hk.active.trans ha, rfl, congrArg (· + 1) hk.executed, rfl⟩
  · exact ⟨_, (step_of_scan h hcmd hsel hir hp).trans (State.scanStep_waits bit33 data hr hb), ⟨rfl, rfl, rfl, rfl⟩, rfl,
      ha, rfl, rfl⟩
  · obtain ⟨g, hact, hex, hstep⟩ := step_of_bypass h hcmd hp
    refine ⟨State.armAccess { b with dbg := g } w, ⟨rfl, rfl, rfl, rfl⟩, rfl, Bool.and_false _, rfl, fun u hu hna => ?_⟩
    have hk := exec_keepsDebug i _ u hu
    have hua : u.dbg.active = true := hk.active.trans hact
    obtain ⟨x, y, z, hset⟩ := u.settleAccess_of_not_aborted hna
    refine ⟨_, (hstep.trans (State.accessStep_executes hi huse hu)).trans (congrArg Host.Outcome.next hset),
      ⟨rfl, rfl, rfl, rfl⟩, hua, (Bool.and_true _).trans hua, rfl, rfl, congrArg (· + 1) (hk.executed.trans hex),
      fun hpipe => ?_⟩
    exact if_neg (by simpa using hpipe)
  · obtain ⟨g, hex, hstep⟩ := step_of_restart h hcmd hir hp
    exact ⟨State.armScan { b with dbg := g } w [], ⟨rfl, rfl, rfl, rfl⟩, rfl, rfl, fun u hu =>
      ⟨u.leaveDebug, hstep.trans (State.leaveStep_executes hi huse (hex ▸ he) hu), ⟨rfl, rfl, rfl, rfl⟩, rfl, rfl, rfl,
        rfl⟩⟩

end Sys2Proof.Machine
end

section
/-! O3: the example words of the spec, each by the rule of the decoder for the format that it belongs to. -/

namespace Sys2Proof

/-! ### The ARM formats -/

section

variable {w : BitVec 32} {c : Cond}

/-- A bit of a field is that bit of the word. -/
theorem bitAt_of_field {i n k : Nat} {v : BitVec n} (h : w.extractLsb' i n = v) (hk : k < n) :
    bitAt w (i + k) = v.getLsbD k := by
  rw [← h, BitVec.getLsbD_extractLsb', decide_eq_true hk, Bool.true_and, bitAt]

/-- Below the condition field the decoder goes by the rest of the word (30 R103, R104). -/
theorem decodeArm_eq_body (hc : Cond.ofBits (w.extractLsb' 28 4) = some c) : decodeArm w = decodeArmBody c w := by
  rw [decodeArm, hc]

variable (hc : Cond.ofBits (w.extractLsb' 28 4) = some c)
include hc

/-- B: bits 27:25 = 101 and L = 0 (40 R162). -/
theorem decodeArm_b (hf : w.extractLsb' 25 3 = 5#3)
    (hl : bitAt w 24 = false) : decodeArm w = .ok (.b c (w.extractLsb' 0 24)) := by
  simp [decodeArm_eq_body hc, decodeArmBody, hf, hl]

/-- STM: bits 27:25 = 100 and L = 0 (45 R265). -/
theorem decodeArm_stm (hf : w.extractLsb' 25 3 = 4#3) (hl : bitAt w 20 = false) :
    decodeArm w = .ok (.stm c (bitAt w 24) (bitAt w 23) (bitAt w 22) (bitAt w 21) (w.extractLsb' 16 4)
      (w.extractLsb' 0 16)) := by
  simp [decodeArm_eq_body hc, decodeArmBody, hf, hl]

/-- SWI: bits 27:24 = 1111 (46 R290). -/
theorem decodeArm_swi (hf : w.extractLsb' 25 3 = 7#3)
    (hs : bitAt w 24 = true) : decodeArm w = .ok (.swi c (w.extractLsb' 0 24)) := by
  simp [decodeArm_eq_body hc, decodeArmBody, decodeArm111, hf, hs]

/-- A test of an immediate: bits 27:25 = 001 and a test opcode with S = 1 (41 R170, R171). -/
theorem decodeArm_testImm (hf : w.extractLsb' 25 3 = 1#3) (hop : w.extractLsb' 23 2 = 2#2) (hs : bitAt w 20 = true) :
    decodeArm w = .ok (.testImm (TestOp.ofBits (w.extractLsb' 21 2)) c (w.extractLsb' 16 4) (w.extractLsb' 12 4)
      (w.extractLsb' 8 4) (w.extractLsb' 0 8)) := by
  simp [decodeArm_eq_body hc, decodeArmBody, decodeArm001, decodeDpImm, hf, hop, hs]

/-- Under bits 27:25 = 000 a word with bit 4 or bit 7 clear is no BX, multiply, swap or halfword transfer where its opcode is
not a test: it is data processing with a register operand (30 R103). -/
theorem decodeArm_dpReg (hf : w.extractLsb' 25 3 = 0#3)
    (hop : w.extractLsb' 23 2 ≠ 2#2) (hb : ¬ (bitAt w 7 = true ∧ bitAt w 4 = true)) :
    decodeArm w = .ok (decodeDpReg c w) := by
  have hbx : w.extractLsb' 4 24 ≠ 0x12FFF1#24 := fun h => by
    have h23 : bitAt w 23 = false := bitAt_of_field (k := 19) h (by decide)
    have h24 : bitAt w 24 = true := bitAt_of_field (k := 20) h (by decide)
    refine hop (BitVec.eq_of_getLsbD_eq fun k hk => ?_)
    rw [BitVec.getLsbD_extractLsb', decide_eq_true hk, Bool.true_and]
    interval_cases k
    · exact h23
    · exact h24
  have hmul : w.extractLsb' 4 4 ≠ 9#4 := fun h =>
    hb ⟨bitAt_of_field (k := 3) h (by decide), bitAt_of_field (k := 0) h (by decide)⟩
  rw [decodeArm_eq_body hc, decodeArmBody, if_pos hf, decodeArm000, if_neg hbx, if_neg hmul, if_neg hb,
    if_neg fun h => hop h.1]

/-- An operation on a register shifted by an immediate amount: bit 4 = 0 (41 R170, R171). -/
theorem decodeArm_aluShift (hf : w.extractLsb' 25 3 = 0#3) (hop : w.extractLsb' 23 2 ≠ 2#2) (h4 : bitAt w 4 = false) :
    decodeArm w = .ok (.aluShift (AluOp.ofBits (w.extractLsb' 21 4)) c (bitAt w 20) (w.extractLsb' 16 4)
      (w.extractLsb' 12 4) (w.extractLsb' 7 5) (ShiftType.ofBits (w.extractLsb' 5 2)) (w.extractLsb' 0 4)) := by
  rw [decodeArm_dpReg hc hf hop (by simp [h4])]
  simp [decodeDpReg, h4, hop]

/-- An operation on a register shifted by a register amount: bit 4 = 1 and bit 7 = 0 (41 R170, R171). -/
theorem decodeArm_aluReg (hf : w.extractLsb' 25 3 = 0#3)
    (hop : w.extractLsb' 23 2 ≠ 2#2) (h4 : bitAt w 4 = true) (h7 : bitAt w 7 = false) :
    decodeArm w = .ok (.aluReg (AluOp.ofBits (w.extractLsb' 21 4)) c (bitAt w 20) (w.extractLsb' 16 4)
      (w.extractLsb' 12 4) (w.extractLsb' 8 4) (ShiftType.ofBits (w.extractLsb' 5 2)) (w.extractLsb' 0 4)) := by
  rw [decodeArm_dpReg hc hf hop (by simp [h7])]
  simp [decodeDpReg, h4, hop]

end

/-! ### The THUMB formats -/

section

variable {h : BitVec 16}

/-- Format 5: bits 15:10 = 010001 (30 R121). -/
theorem decodeThumb_hi (hf : h.extractLsb' 13 3 = 2#3) (hg : h.extractLsb' 10 3 = 1#3) :
    decodeThumb h = .ok (decodeThumbHi h) := by
  simp [decodeThumb, decodeThumb010, hf, hg]

/-- BX of a Hi register: Op = 11, H1 = 0, H2 = 1 (47 R347). -/
theorem decodeThumb_bxHi (hf : h.extractLsb' 13 3 = 2#3) (hg : h.extractLsb' 10 3 = 1#3) (hop : h.extractLsb' 8 2 = 3#2)
    (h1 : bitAt h 7 = false) (h2 : bitAt h 6 = true) :
    decodeThumb h = .ok (.tBxHi (h.extractLsb' 3 3) (h.extractLsb' 0 3)) := by
  simp [decodeThumb_hi hf hg, decodeThumbHi, hop, h1, h2]

/-- MOV from a Hi to a Lo register: Op = 10, H1 = 0, H2 = 1 (47 R347). -/
theorem decodeThumb_movLoHi (hf : h.extractLsb' 13 3 = 2#3) (hg : h.extractLsb' 10 3 = 1#3)
    (hop : h.extractLsb' 8 2 = 2#2) (hh : h.extractLsb' 6 2 = 1#2) :
    decodeThumb h = .ok (.tMovLoHi (h.extractLsb' 3 3) (h.extractLsb' 0 3)) := by
  simp [decodeThumb_hi hf hg, decodeThumbHi, hop, hh]

/-- STR with an immediate offset: bits 15:11 = 01100 (48 R383). -/
theorem decodeThumb_strImm (hf : h.extractLsb' 13 3 = 3#3) (hbl : h.extractLsb' 11 2 = 0#2) :
    decodeThumb h = .ok (.tStrImm (h.extractLsb' 6 5) (h.extractLsb' 3 3) (h.extractLsb' 0 3)) := by
  simp [decodeThumb, decodeThumb011, hf, hbl]

/-- SWI: bits 15:8 = 11011111 (49 R413). -/
theorem decodeThumb_swi (hf : h.extractLsb' 13 3 = 6#3) (hg : h.extractLsb' 11 2 = 3#2)
    (hc : h.extractLsb' 8 4 = 15#4) : decodeThumb h = .ok (.tSwi (h.extractLsb' 0 8)) := by
  simp [decodeThumb, decodeThumb110, hf, hg, hc]

end

/-- Settles O3: each word by the rule of its format, whose fields are read off the word. -/
theorem exampleWordsDecode : Obligations.ExampleWordsDecode := by
  unfold Obligations.ExampleWordsDecode
  refine ⟨?b, ?add, ?orr, ?teq, ?sub, ?mov, ?swi, ?stm, ?thumbBx, ?thumbMov, ?thumbStr, ?thumbSwi⟩
  case b => exact decodeArm_b rfl rfl rfl
  case add => exact decodeArm_aluShift rfl rfl (by decide) rfl
  case orr => exact decodeArm_aluShift rfl rfl (by decide) rfl
  case teq => exact decodeArm_testImm rfl rfl rfl rfl
  case sub => exact decodeArm_aluReg rfl rfl (by decide) rfl rfl
  case mov => exact decodeArm_aluShift rfl rfl (by decide) rfl
  case swi => exact decodeArm_swi rfl rfl rfl
  case stm => exact decodeArm_stm rfl rfl rfl
  case thumbBx => exact decodeThumb_bxHi rfl rfl rfl rfl rfl
  case thumbMov => exact decodeThumb_movLoHi rfl rfl rfl rfl
  case thumbStr => exact decodeThumb_strImm rfl rfl
  case thumbSwi => exact decodeThumb_swi rfl rfl rfl

end Sys2Proof
end

section
/-! O25: a data processing result written to R15 (41 R176, 60 R452). -/

namespace Sys2Proof.Machine

/-! ### The results of Table 7 -/

/-- The adder subtracts by the complement: a difference, less one without the carry (41 R181, R184). -/
theorem addWithCarry_not_value (a b : Word) (c : Bool) :
    (addWithCarry a (~~~b) c).value = a - b + BitVec.ofNat 32 c.toNat - 1#32 := by
  rw [addWithCarry_value]
  bv_omega

theorem addWithCarry_not_true_value (a b : Word) : (addWithCarry a (~~~b) true).value = a - b := by
  rw [addWithCarry_not_value]
  exact BitVec.add_sub_cancel (a - b) 1#32

theorem addWithCarry_false_value (a b : Word) : (addWithCarry a b false).value = a + b := by
  rw [addWithCarry_value]
  exact BitVec.add_zero (a + b)

/-- What an operation writes is the result column of Table 7, whatever the flags it leaves. -/
theorem aluOut_value (op : AluOp) (p : Psr) (a : Word) (b : Shifted) : (aluOut op p a b).1 = op.result a b.value p.c := by
  cases op with
  | add => exact addWithCarry_false_value a b.value
  | adc => exact addWithCarry_value a b.value p.c
  | sub => exact addWithCarry_not_true_value a b.value
  | rsb => exact addWithCarry_not_true_value b.value a
  | sbc => exact addWithCarry_not_value a b.value p.c
  | rsc => exact addWithCarry_not_value b.value a p.c
  | and | eor | orr | mov | bic | mvn => rfl

/-! ### The end of an operation with Rd = R15 -/

section

variable (s : State)

theorem State.exceptionReturn_of_spsr {p : Psr} (h : s.spsr = some p) (v : Word) :
    s.exceptionReturn v = .next ((s.withCpsr p).branch v) := by
  rw [State.exceptionReturn, h]
  rfl

theorem State.exceptionReturn_of_no_spsr (h : s.spsr = none) (v : Word) : s.exceptionReturn v = .fault .noSpsr := by
  rw [State.exceptionReturn, h]

/-- With Rd = R15 an operation is a branch to its result, or with S a return from an exception to it (41 R176). -/
theorem exec_aluInstr_pc (op : AluOp) (c : Cond) (sf : Bool) (rn : Reg) (o : Op2) (hc : condPassed c s.cpsr = true)
    (ho : o.excluded = false) :
    exec (aluInstr op c sf rn 15#4 o) s =
      let r := op.result (s.op1 rn o) (s.op2 o).value s.cpsr.c
      if sf then s.exceptionReturn r else .next (s.branch r) := by
  rw [exec_aluInstr, State.dataOp, State.conditional_pass _ _ _ hc, if_neg (Bool.not_eq_true _ ▸ ho)]
  dsimp only
  rw [if_pos rfl, aluOut_value]

end

/-- Settles O25: the three endings of an operation with Rd = R15, each with the frame of its branch. -/
theorem resultInPc : Obligations.ResultInPc := by
  unfold Obligations.ResultInPc
  intro s op c rn o _ hc ho r
  have hexec (sf : Bool) : exec (aluInstr op c sf rn 15#4 o) s =
      if sf then s.exceptionReturn r else .next (s.branch r) := exec_aluInstr_pc s op c sf rn o hc ho
  refine ⟨?withoutS, ?withSpsr, ?withoutSpsr⟩
  case withoutS => exact ⟨s.branch r, hexec false, s.jumps_branch_self r⟩
  case withSpsr =>
    intro p hp
    exact ⟨(s.withCpsr p).branch r, (hexec true).trans (s.exceptionReturn_of_spsr hp r), s.jumps_branch r p⟩
  case withoutSpsr =>
    intro hn
    exact (hexec true).trans (s.exceptionReturn_of_no_spsr hn r)

end Sys2Proof.Machine
end

section
/-! O44: the aborted load multiple (45 R277, 60 R447, R448), by the register list cut at the first aborted transfer: the
registers before it are loaded, it and those after it are not. -/

namespace Sys2Proof.Machine

/-! ### The registers of a list below a number -/

/-- The registers of a list below a number, in ascending order (45 R266). -/
def regsBelow (list : BitVec 16) (n : Nat) : List Reg :=
  ((List.range n).filter fun k => list.getLsbD k).map (BitVec.ofNat 4)

section

variable (list : BitVec 16)

theorem regsBelow_sixteen : regsBelow list 16 = regList list := rfl

theorem regsBelow_succ (n : Nat) :
    regsBelow list (n + 1) = regsBelow list n ++ if list.getLsbD n then [BitVec.ofNat 4 n] else [] := by
  unfold regsBelow
  rw [List.range_succ, List.filter_append, List.map_append]
  cases h : list.getLsbD n <;> simp [h]

theorem length_regsBelow (r : Reg) : (regsBelow list r.toNat).length = rankIn list r := by
  rw [regsBelow, List.length_map, rankIn]

theorem mem_regsBelow {n : Nat} (hn : n ≤ 16) (r : Reg) :
    r ∈ regsBelow list n ↔ list.getLsbD r.toNat = true ∧ r.toNat < n := by
  induction n with
  | zero => simp [regsBelow]
  | succ n ih =>
    have heq : r = BitVec.ofNat 4 n ↔ r.toNat = n := by
      rw [← BitVec.toNat_inj, BitVec.toNat_ofNat, Nat.mod_eq_of_lt (by omega)]
    have hlast : (r ∈ if list.getLsbD n then [BitVec.ofNat 4 n] else []) ↔ list.getLsbD r.toNat = true ∧ r.toNat = n := by
      split <;> grind
    rw [regsBelow_succ, List.mem_append, ih (by omega), hlast, ← and_or_left, Nat.lt_succ_iff_lt_or_eq]

/-- A register of the list cuts it: those below it stand before it, those above it after it. -/
theorem regsBelow_cut {n : Nat} (hn : n ≤ 16) {r : Reg} (hr : list.getLsbD r.toNat = true) (hlt : r.toNat < n) :
    ∃ post : List Reg, regsBelow list n = regsBelow list r.toNat ++ r :: post ∧ ∀ r' ∈ post, r.toNat < r'.toNat := by
  induction n with
  | zero => exact absurd hlt (Nat.not_lt_zero _)
  | succ n ih =>
    rw [regsBelow_succ]
    rcases Nat.lt_succ_iff_lt_or_eq.mp hlt with hlt | rfl
    · obtain ⟨post, heq, hpost⟩ := ih (by omega) hlt
      refine ⟨post ++ if list.getLsbD n then [BitVec.ofNat 4 n] else [], by rw [heq, List.append_assoc]; rfl, ?_⟩
      intro r' hr'
      rcases List.mem_append.mp hr' with h | h
      · exact hpost r' h
      · have hn' : (BitVec.ofNat 4 n).toNat = n := Nat.mod_eq_of_lt (by omega)
        split at h
        · rwa [List.mem_singleton.mp h, hn']
        · exact absurd h List.not_mem_nil
    · exact ⟨[], by rw [if_pos hr, BitVec.ofNat_toNat, BitVec.setWidth_eq], fun _ h => absurd h List.not_mem_nil⟩

/-- The registers of a list have the ranks 0, 1, 2, … in their order (45 R268). -/
theorem map_rankIn_regsBelow {n : Nat} (hn : n ≤ 16) :
    (regsBelow list n).map (rankIn list) = List.range (regsBelow list n).length := by
  induction n with
  | zero => rfl
  | succ n ih =>
    have hrank : rankIn list (BitVec.ofNat 4 n) = (regsBelow list n).length := by
      rw [← length_regsBelow, BitVec.toNat_ofNat, Nat.mod_eq_of_lt (by omega)]
    rw [regsBelow_succ]
    split
    · rw [List.map_append, ih (by omega), List.length_append, List.map_singleton, hrank, List.length_singleton,
        List.range_succ]
    · rw [List.append_nil, ih (by omega)]

end

/-! ### The words of a load multiple, cut at an aborted one -/

namespace LoadProgress

variable (q : LoadProgress) (ub : Bool) (a : Word)

theorem loadAll_append (xs ys : List Reg) : ∀ (q : LoadProgress) (a : Word),
    q.loadAll ub a (xs ++ ys) = (q.loadAll ub a xs).loadAll ub (a + BitVec.ofNat 32 (4 * xs.length)) ys := by
  induction xs with
  | nil => intro q a; rw [List.length_nil, Nat.mul_zero, BitVec.add_zero]; rfl
  | cons x xs ih => intro q a; rw [List.length_cons, ← addr_succ]; exact ih _ _

/-- An aborted word of a load multiple makes its bus cycle and writes no register (45 R277). -/
theorem load_abort (r : Reg) (hi : q.state.isolated = false)
    (ha : q.state.aborts a .word false false q.state.privileged = true) :
    (q.load ub a r).aborted = true ∧ ∀ p : PReg, (q.load ub a r).state.getReg p = q.state.getReg p := by
  unfold load
  rw [State.dataRead_abort _ _ _ _ _ hi ha]
  exact ⟨rfl, fun _ => rfl⟩

/-- Every word of a load multiple outside isolation makes one read on the bus, aborted or not (45 R277). -/
theorem load_bus (r : Reg) (hi : q.state.isolated = false) : ∃ c : BusCycle,
    (q.load ub a r).state.bus = q.state.bus ++ [c] ∧ c.addr = a ∧ c.write = false ∧ c.fetch = false ∧ c.size = .word := by
  refine ⟨q.state.dataCycle a .word false q.state.privileged false (Memory.wordAt q.state.pins.bigend q.state.mem a), ?_,
    rfl, rfl, rfl, rfl⟩
  unfold load
  cases ha : q.state.aborts a .word false false q.state.privileged
  · rw [State.dataRead_ok _ _ _ _ _ hi ha]
    dsimp only
    split
    · rfl
    · split
      · rfl
      · cases ub <;> rfl
  · rw [State.dataRead_abort _ _ _ _ _ hi ha]
    rfl

/-- Every transfer of a load multiple is made on the bus, at ascending addresses (45 R268, R277). -/
theorem loadAll_bus (rs : List Reg) : ∀ (q : LoadProgress) (a : Word), q.state.isolated = false →
    ∃ cs : List BusCycle, (q.loadAll ub a rs).state.bus = q.state.bus ++ cs ∧
      cs.map (fun c => c.addr) = (List.range rs.length).map (fun k => a + BitVec.ofNat 32 (4 * k)) ∧
      ∀ c ∈ cs, c.write = false ∧ c.fetch = false ∧ c.size = .word := by
  induction rs with
  | nil => exact fun q a _ => ⟨[], (List.append_nil _).symm, rfl, fun _ h => absurd h List.not_mem_nil⟩
  | cons r rest ih =>
    intro q a hi
    obtain ⟨-, -, -, -, -, -, -, hi'⟩ := q.load_keeps ub a r
    obtain ⟨c, hbus, haddr, hc⟩ := q.load_bus ub a r hi
    obtain ⟨cs, hbuses, haddrs, hcs⟩ := ih (q.load ub a r) (a + 4#32) (hi'.trans hi)
    refine ⟨c :: cs, ?_, ?_, List.forall_mem_cons.mpr ⟨hc, hcs⟩⟩
    · rw [loadAll, hbuses, hbus, List.append_assoc]
      rfl
    · rw [List.map_cons, haddr, haddrs, List.length_cons, List.range_succ_eq_map, List.map_cons, List.map_map, Nat.mul_zero,
        BitVec.add_zero]
      exact congrArg _ (List.map_congr_left fun k _ => addr_succ a k)

section

variable {q a} {xs ys : List Reg} {r : Reg}

/-- A register of a load multiple of which no word is aborted receives the word at its address, if no later register is the
same (45 R268, R270). -/
theorem loadAll_getReg_of_ok (hi : q.state.isolated = false) (hq : q.aborted = false)
    (ha : ∀ k < (xs ++ r :: ys).length,
      q.state.aborts (a + BitVec.ofNat 32 (4 * k)) .word false false q.state.privileged = false)
    (hr : r ≠ 15#4) (hys : ∀ r' ∈ ys, r' ≠ 15#4 ∧ r' ≠ r) :
    (q.loadAll ub a (xs ++ r :: ys)).state.getReg (physReg (if ub then modeUsr else q.state.cpsr.m) r) =
      Memory.wordAt q.state.pins.bigend q.state.mem (a + BitVec.ofNat 32 (4 * xs.length)) := by
  rw [List.length_append, List.length_cons] at ha
  obtain ⟨-, hc, -, hm, -, hp, -, hi'⟩ := loadAll_keeps ub xs q a
  obtain ⟨-, hc', -⟩ := (q.loadAll ub a xs).load_keeps ub (a + BitVec.ofNat 32 (4 * xs.length)) r
  have hx := loadAll_not_aborted ub xs q a hi hq fun k hk => ha k (by omega)
  have hok : (q.loadAll ub a xs).state.aborts (a + BitVec.ofNat 32 (4 * xs.length)) .word false false
      (q.loadAll ub a xs).state.privileged = false := by
    have := ha xs.length (by omega)
    rwa [State.aborts, State.privileged, ← hp, ← hc] at this
  obtain ⟨-, -, hv⟩ := (q.loadAll ub a xs).load_ok ub _ r (hi'.trans hi) hok hx hr
  rw [loadAll_append, loadAll, loadAll_getReg, ← hc, hv, hm, hp]
  intro r' hr' he
  rw [hc', hc] at he
  exact (hys r' hr').2 (physReg_injective _ _ _ hr (hys r' hr').1 he).symm

/-- From an aborted word on, a load multiple writes no register (45 R277). -/
theorem loadAll_stops (hi : q.state.isolated = false)
    (ha : q.state.aborts (a + BitVec.ofNat 32 (4 * xs.length)) .word false false q.state.privileged = true) :
    (q.loadAll ub a (xs ++ r :: ys)).aborted = true ∧
      ∀ p : PReg, (q.loadAll ub a (xs ++ r :: ys)).state.getReg p = (q.loadAll ub a xs).state.getReg p := by
  obtain ⟨-, hc, -, -, -, hp, -, hi'⟩ := loadAll_keeps ub xs q a
  rw [State.aborts, State.privileged, ← hp, ← hc] at ha
  obtain ⟨hs, hregs⟩ := (q.loadAll ub a xs).load_abort ub _ r (hi'.trans hi) ha
  rw [loadAll_append, loadAll]
  exact ⟨loadAll_aborted ub ys _ _ hs, fun p => (loadAll_getReg_of_aborted ub p ys _ _ hs).trans (hregs p)⟩

end

end LoadProgress

/-! ### A load multiple as its words and its end -/

/-- The instruction is a load multiple that the spec defines: one of `Instr.loadsMany`, or in a privileged mode an LDM with
the S bit, whose registers are those of the User bank where R15 is not in the list (45 R272). -/
def State.loadsManyBy (s : State) (i : Instr) (user p u w : Bool) (rn : Reg) (list : BitVec 16) : Prop :=
  (user = false ∧ i.loadsMany = some (p, u, w, rn, list)) ∨
    (s.cpsr.m ≠ modeUsr ∧ user = !list.getLsbD 15 ∧ (list.getLsbD 15 = true → s.spsr ≠ none) ∧
      ∃ c : Cond, i = .ldm c p u true w rn list)

theorem exec_ldm_pass {s : State} {c : Cond} (hc : condPassed c s.cpsr = true) (p u sf w : Bool) (rn : Reg)
    (list : BitVec 16) : exec (.ldm c p u sf w rn list) s = s.loadMultiple p u sf w rn list :=
  State.conditional_pass s c (fun s => s.loadMultiple p u sf w rn list) hc

/-- The load multiples without the S bit are one shared operation (45 R265, 48 R396, R397, R400). -/
theorem exec_loadsMany {i : Instr} {s : State} {p u w : Bool} {rn : Reg} {list : BitVec 16}
    (h : i.loadsMany = some (p, u, w, rn, list)) (hp : i.passes s) (hwf : i.wf = true) :
    exec i s = s.loadMultiple p u false w rn list ∧ rn ≠ 15#4 := by
  cases i
  case ldm c p' u' sf w' rn' list' =>
    cases sf with
    | true => exact absurd h (by simp [Instr.loadsMany])
    | false =>
      simp only [Instr.loadsMany, Option.some.injEq, Prod.mk.injEq] at h
      obtain ⟨rfl, rfl, rfl, rfl, rfl⟩ := h
      exact ⟨exec_ldm_pass (hp c rfl) _ _ _ _ _ _, by simp_all [Instr.wf]⟩
  case tPop | tPopPc =>
    simp only [Instr.loadsMany, Option.some.injEq, Prod.mk.injEq] at h
    obtain ⟨rfl, rfl, rfl, rfl, rfl⟩ := h
    exact ⟨rfl, by decide⟩
  case tLdmia rb _ =>
    simp only [Instr.loadsMany, Option.some.injEq, Prod.mk.injEq] at h
    obtain ⟨rfl, rfl, rfl, rfl, rfl⟩ := h
    exact ⟨rfl, loReg_ne rb⟩
  all_goals exact absurd h (by simp [Instr.loadsMany])

/-- The words of a load multiple, after the write-back of its base (45 R270, R275). -/
def State.blockLoad (s : State) (user p u w : Bool) (rn : Reg) (list : BitVec 16) : LoadProgress :=
  (LoadProgress.mk (s.writeBase w rn (blockFinal u (s.operand rn) (listBytes list))) false 0#32).loadAll user
    (blockStart p u (s.operand rn) (listBytes list)) (regList list)

section

variable {s : State} {user p u w : Bool} {rn : Reg} {list : BitVec 16}

theorem blockExcluded_none (hl : list ≠ 0#16) (hn : rn ≠ 15#4) (hw : (user && w) = false) :
    blockExcluded user w rn list = none := by
  rw [blockExcluded, if_neg hl, if_neg hn, hw]
  rfl

/-- A load multiple of which a word is aborted puts its base right and takes the data abort (45 R277). -/
theorem State.loadMultiple_of_aborted {sf : Bool} (hl : list ≠ 0#16) (hn : rn ≠ 15#4) (hw : (user && w) = false)
    (hu : user = (sf && !list.getLsbD 15)) (hp : sf = true → s.privileged = true)
    (hs : sf = true → list.getLsbD 15 = true → s.spsr ≠ none) (ha : (s.blockLoad user p u w rn list).aborted = true) :
    s.loadMultiple p u sf w rn list = .next ((s.blockLoad user p u w rn list).state.writeReg rn
      (if w then blockFinal u (s.operand rn) (listBytes list) else s.operand rn)).takeDataAbort := by
  subst hu
  have hmode : ¬ (sf && !s.privileged) = true := by
    cases sf <;> simp_all
  have hspsr : ¬ (sf && list.getLsbD 15 && s.spsr.isNone) = true := by
    cases sf <;> simp_all
  unfold State.loadMultiple
  dsimp only
  rw [blockExcluded_none hl hn hw]
  dsimp only
  rw [if_neg hmode, if_neg hspsr]
  exact if_pos ha

/-- An aborted load multiple of every form (45 R277). -/
theorem exec_of_blockLoad_aborted {i : Instr} (h : s.loadsManyBy i user p u w rn list) (hwf : i.wf = true) (hp : i.passes s)
    (hl : list ≠ 0#16) (ha : (s.blockLoad user p u w rn list).aborted = true) :
    exec i s = .next ((s.blockLoad user p u w rn list).state.writeReg rn
      (if w then blockFinal u (s.operand rn) (listBytes list) else s.operand rn)).takeDataAbort := by
  rcases h with ⟨rfl, hm⟩ | ⟨hmode, hu, hspsr, c, rfl⟩
  · obtain ⟨hexec, hn⟩ := exec_loadsMany hm hp hwf
    exact hexec.trans (State.loadMultiple_of_aborted hl hn rfl rfl nofun nofun ha)
  · have hn : rn ≠ 15#4 := by simp_all [Instr.wf]
    have hw : (user && w) = false := by
      subst hu
      cases h15 : list.getLsbD 15 <;> simp_all [Instr.wf]
    have hpriv : s.privileged = true := bne_iff_ne.mpr hmode
    exact (exec_ldm_pass (hp c rfl) _ _ _ _ _ _).trans
      (State.loadMultiple_of_aborted hl hn hw hu (fun _ => hpriv) (fun _ => hspsr) ha)

end

theorem State.takeDataAbort_getReg (s : State) (q : PReg) :
    s.takeDataAbort.getReg q = if q = .r14Abt then s.pc + 8#32 else s.getReg q :=
  s.enterException_getReg .dataAbort _ q

theorem State.inDataAbort_takeDataAbort {s t : State} (hpc : t.pc = s.pc) (hc : t.cpsr = s.cpsr) :
    s.inDataAbort t.takeDataAbort := by
  refine ⟨rfl, ?_, ?_, ?_, rfl⟩
  · rw [State.takeDataAbort, State.enterException_cpsr, hc]
    exact congrArg (fun f => Psr.mk _ _ _ _ _ f _ _) (Bool.or_false _)
  · rw [State.takeDataAbort, State.spsr_enterException, hc]
  · rw [State.takeDataAbort_getReg, if_pos rfl, hpc]

/-! ### The registers and the bus after an aborted load multiple -/

section

variable {s : State} (user p u w : Bool) (rn : Reg) (list : BitVec 16)

theorem State.loadKeeps_writeBase (v : Word) : s.loadKeeps (s.writeBase w rn v) := by
  simp [State.loadKeeps]

theorem State.blockLoad_keeps : s.loadKeeps (s.blockLoad user p u w rn list).state :=
  State.loadKeeps_trans (s.loadKeeps_writeBase w rn _) (LoadProgress.loadAll_keeps _ _ _ _)

/-- Every transfer of a load multiple is made, at its register's address (45 R268, R277). -/
theorem State.blockLoad_bus (hi : s.isolated = false) : ∃ cs : List BusCycle,
    (s.blockLoad user p u w rn list).state.bus = s.bus ++ cs ∧
      cs.map (fun c => c.addr) = (regList list).map (blockAddress p u (s.operand rn) list) ∧
      ∀ c ∈ cs, c.write = false ∧ c.fetch = false ∧ c.size = .word := by
  obtain ⟨cs, hbus, haddr, hcs⟩ := LoadProgress.loadAll_bus user (regList list)
    ⟨s.writeBase w rn (blockFinal u (s.operand rn) (listBytes list)), false, 0#32⟩
    (blockStart p u (s.operand rn) (listBytes list)) ((s.writeBase_isolated w rn _).trans hi)
  refine ⟨cs, hbus.trans (congrArg (· ++ cs) (s.writeBase_bus w rn _)), haddr.trans ?_, hcs⟩
  rw [← regsBelow_sixteen, ← map_rankIn_regsBelow list le_rfl, List.map_map]
  rfl

variable {user p u w rn list} {bad : Reg} (hi : s.isolated = false) (hbad : list.getLsbD bad.toNat = true)
  (hstop : s.aborts (blockAddress p u (s.operand rn) list bad) .word false false s.privileged = true)

include hi hbad hstop

/-- A load multiple with an aborted transfer is aborted, and what it has written is what the registers before that one
give (45 R277). -/
theorem State.blockLoad_stops : (s.blockLoad user p u w rn list).aborted = true ∧
    ∀ q : PReg, (s.blockLoad user p u w rn list).state.getReg q =
      ((LoadProgress.mk (s.writeBase w rn (blockFinal u (s.operand rn) (listBytes list))) false 0#32).loadAll user
        (blockStart p u (s.operand rn) (listBytes list)) (regsBelow list bad.toNat)).state.getReg q := by
  obtain ⟨post, hcut, -⟩ := regsBelow_cut list le_rfl hbad bad.isLt
  rw [State.blockLoad, ← regsBelow_sixteen, hcut]
  refine LoadProgress.loadAll_stops user ((s.writeBase_isolated w rn _).trans hi) ?_
  rw [length_regsBelow, State.writeBase_aborts, State.writeBase_privileged]
  exact hstop

/-- A register before the first aborted transfer holds the word loaded (60 R448). -/
theorem State.blockLoad_getReg_loaded
    (hfirst : ∀ r : Reg, list.getLsbD r.toNat = true → r.toNat < bad.toNat →
      s.aborts (blockAddress p u (s.operand rn) list r) .word false false s.privileged = false)
    {r : Reg} (hr : list.getLsbD r.toNat = true) (hlt : r.toNat < bad.toNat) :
    (s.blockLoad user p u w rn list).state.getReg (physReg (if user then modeUsr else s.cpsr.m) r) =
      Memory.wordAt s.pins.bigend s.mem (blockAddress p u (s.operand rn) list r) := by
  have hbelow {r' : Reg} (h : r'.toNat < bad.toNat) : r' ≠ 15#4 := by
    rintro rfl
    exact absurd bad.isLt (Nat.not_lt.mpr h)
  have hok (k : Nat) (hk : k < (regsBelow list bad.toNat).length) :
      s.aborts (blockStart p u (s.operand rn) (listBytes list) + BitVec.ofNat 32 (4 * k)) .word false false
        s.privileged = false := by
    rw [← List.mem_range, ← map_rankIn_regsBelow list bad.isLt.le] at hk
    obtain ⟨r', hr', rfl⟩ := List.mem_map.mp hk
    obtain ⟨hbit, hlt'⟩ := (mem_regsBelow list bad.isLt.le r').mp hr'
    exact hfirst r' hbit hlt'
  obtain ⟨post, hcut, hpost⟩ := regsBelow_cut list bad.isLt.le hr hlt
  have hafter (r' : Reg) (h : r' ∈ post) : r' ≠ 15#4 ∧ r' ≠ r := by
    have hmem : r' ∈ regsBelow list bad.toNat := hcut ▸ List.mem_append_right _ (List.mem_cons_of_mem _ h)
    exact ⟨hbelow ((mem_regsBelow list bad.isLt.le r').mp hmem).2, fun he => (hpost r' h).ne (he ▸ rfl)⟩
  rw [(State.blockLoad_stops hi hbad hstop).2]
  rw [hcut] at hok ⊢
  have hload := LoadProgress.loadAll_getReg_of_ok user
    (q := ⟨s.writeBase w rn (blockFinal u (s.operand rn) (listBytes list)), false, 0#32⟩)
    ((s.writeBase_isolated w rn _).trans hi) rfl (by simpa using hok) (hbelow hlt) hafter
  simpa [length_regsBelow, blockAddress] using hload

/-- A register that none before the first aborted transfer selects is not loaded (45 R277, 60 R448). -/
theorem State.blockLoad_getReg_kept {q : PReg}
    (hq : ∀ r : Reg, list.getLsbD r.toNat = true → r.toNat < bad.toNat →
      q ≠ physReg (if user then modeUsr else s.cpsr.m) r) (hbase : q ≠ physReg s.cpsr.m rn) :
    (s.blockLoad user p u w rn list).state.getReg q = s.getReg q := by
  rw [(State.blockLoad_stops hi hbad hstop).2, LoadProgress.loadAll_getReg, State.writeBase_getReg,
    if_neg fun h => hbase h.2]
  intro r hr
  obtain ⟨hbit, hlt⟩ := (mem_regsBelow list bad.isLt.le r).mp hr
  rw [State.writeBase_cpsr]
  exact hq r hbit hlt

end

/-- Settles O44: the registers as the transfers before the first aborted one leave them, the base put right, and the entry to
the data abort. -/
theorem abortedLoadMultiple : Obligations.AbortedLoadMultiple := by
  unfold Obligations.AbortedLoadMultiple
  intro s i user p u w rn list bad hm hwf hp hi base address stops target left hbad hstop hfirst
  have hl : list ≠ 0#16 := by
    rintro rfl
    simp at hbad
  obtain ⟨hpc, hc, -, hmem, -⟩ := s.blockLoad_keeps user p u w rn list
  have hbase (q : PReg) (ht : q ≠ .r14Abt) :
      ((s.blockLoad user p u w rn list).state.writeReg rn left).takeDataAbort.getReg q =
        if q = physReg s.cpsr.m rn then left else (s.blockLoad user p u w rn list).state.getReg q := by
    rw [State.takeDataAbort_getReg, if_neg ht, State.writeReg_getReg, hc]
  refine ⟨((s.blockLoad user p u w rn list).state.writeReg rn left).takeDataAbort,
    exec_of_blockLoad_aborted hm hwf hp hl (State.blockLoad_stops hi hbad hstop).1,
    State.inDataAbort_takeDataAbort hpc hc, ?base, ?loaded, ?kept, s.blockLoad_bus user p u w rn list hi, ?memory⟩
  case base => exact fun ht => (hbase _ ht).trans (if_pos rfl)
  case loaded =>
    intro r hr hlt _ hne ht
    rw [hbase _ ht, if_neg hne]
    exact State.blockLoad_getReg_loaded hi hbad hstop hfirst hr hlt
  case kept =>
    intro q ht hne hq
    rw [hbase _ ht, if_neg hne]
    refine State.blockLoad_getReg_kept hi hbad hstop (fun r hr hlt => hq r hr hlt ?_) hne
    rintro rfl
    exact absurd bad.isLt (Nat.not_lt.mpr hlt)
  case memory => exact fun a => congrArg (Memory.get · a) hmem

end Sys2Proof.Machine
end

section
/-! O8: the THUMB Format 5 combinations that the section excludes (47 R353), each by the rule of the decoder for its Op, H1 and
H2; a range of halfwords that differ only in their low bits gives the fields above those bits. -/

namespace Sys2Proof

/-- The halfwords that agree above bit `k` agree in every field that lies there. -/
theorem extractLsb'_of_shiftRight {h : BitVec 16} {k a : Nat} (ha : h.toNat >>> k = a) (j m : Nat) :
    h.extractLsb' (k + j) m = BitVec.ofNat m (a >>> j) := by
  rw [BitVec.extractLsb', Nat.shiftRight_add, ha]

/-- And in every bit that lies there. -/
theorem bitAt_of_shiftRight {h : BitVec 16} {k a : Nat} (ha : h.toNat >>> k = a) (j : Nat) :
    bitAt h (k + j) = a.testBit j := by
  rw [bitAt, BitVec.getLsbD, ← ha, Nat.testBit_shiftRight]

section

variable {h : BitVec 16} (hf : h.extractLsb' 13 3 = 2#3) (hg : h.extractLsb' 10 3 = 1#3)
include hf hg

/-! ### ADD: Op = 00 -/

/-- ADD with H1 = H2 = 0, excluded (47 R353). -/
theorem decodeThumb_addLoLo (hop : h.extractLsb' 8 2 = 0#2) (hh : h.extractLsb' 6 2 = 0#2) :
    decodeThumb h = .ok (.tAddLoLo (h.extractLsb' 3 3) (h.extractLsb' 0 3)) := by
  simp [decodeThumb_hi hf hg, decodeThumbHi, hop, hh]

/-- ADD of a Lo to a Hi register: H1 = 1, H2 = 0 (47 R347). -/
theorem decodeThumb_addHiLo (hop : h.extractLsb' 8 2 = 0#2) (hh : h.extractLsb' 6 2 = 2#2) :
    decodeThumb h = .ok (.tAddHiLo (h.extractLsb' 3 3) (h.extractLsb' 0 3)) := by
  simp [decodeThumb_hi hf hg, decodeThumbHi, hop, hh]

/-! ### CMP: Op = 01 -/

/-- CMP with H1 = H2 = 0, excluded (47 R353). -/
theorem decodeThumb_cmpLoLo (hop : h.extractLsb' 8 2 = 1#2) (hh : h.extractLsb' 6 2 = 0#2) :
    decodeThumb h = .ok (.tCmpLoLo (h.extractLsb' 3 3) (h.extractLsb' 0 3)) := by
  simp [decodeThumb_hi hf hg, decodeThumbHi, hop, hh]

/-- CMP of a Lo with a Hi register: H1 = 0, H2 = 1 (47 R347). -/
theorem decodeThumb_cmpLoHi (hop : h.extractLsb' 8 2 = 1#2) (hh : h.extractLsb' 6 2 = 1#2) :
    decodeThumb h = .ok (.tCmpLoHi (h.extractLsb' 3 3) (h.extractLsb' 0 3)) := by
  simp [decodeThumb_hi hf hg, decodeThumbHi, hop, hh]

/-! ### MOV: Op = 10 -/

/-- MOV with H1 = H2 = 0, excluded (47 R353). -/
theorem decodeThumb_movLoLo (hop : h.extractLsb' 8 2 = 2#2) (hh : h.extractLsb' 6 2 = 0#2) :
    decodeThumb h = .ok (.tMovLoLo (h.extractLsb' 3 3) (h.extractLsb' 0 3)) := by
  simp [decodeThumb_hi hf hg, decodeThumbHi, hop, hh]

/-- MOV from a Lo to a Hi register: H1 = 1, H2 = 0 (47 R347). -/
theorem decodeThumb_movHiLo (hop : h.extractLsb' 8 2 = 2#2) (hh : h.extractLsb' 6 2 = 2#2) :
    decodeThumb h = .ok (.tMovHiLo (h.extractLsb' 3 3) (h.extractLsb' 0 3)) := by
  simp [decodeThumb_hi hf hg, decodeThumbHi, hop, hh]

/-- MOV between two Hi registers: H1 = H2 = 1 (47 R347). -/
theorem decodeThumb_movHiHi (hop : h.extractLsb' 8 2 = 2#2) (hh : h.extractLsb' 6 2 = 3#2) :
    decodeThumb h = .ok (.tMovHiHi (h.extractLsb' 3 3) (h.extractLsb' 0 3)) := by
  simp [decodeThumb_hi hf hg, decodeThumbHi, hop, hh]

/-! ### BX: Op = 11 -/

/-- BX with H1 = 1, excluded (47 R353): H2 is free. -/
theorem decodeThumb_bxH1 (hop : h.extractLsb' 8 2 = 3#2) (h1 : bitAt h 7 = true) :
    decodeThumb h = .ok (.tBxH1 (bitAt h 6) (h.extractLsb' 3 3) (h.extractLsb' 0 3)) := by
  simp [decodeThumb_hi hf hg, decodeThumbHi, hop, h1]

end

/-- Settles O8: the fields that each range of halfwords fixes, and the rule of the decoder for them. -/
theorem excludedHiFormsStop : Obligations.ExcludedHiFormsStop := by
  unfold Obligations.ExcludedHiFormsStop
  refine ⟨?add, ?cmp, ?mov, ?bx, ?stop, ?addHiLo, ?cmpLoHi, ?movHiHi, ?movHiLo, ?bxHi⟩
  case add =>
    intro h lo hi
    have high : h.toNat >>> 6 = 0b0100010000 := by omega
    have field := extractLsb'_of_shiftRight high
    exact ⟨_, _, decodeThumb_addLoLo (field 7 3) (field 4 3) (field 2 2) (field 0 2)⟩
  case cmp =>
    intro h lo hi
    have high : h.toNat >>> 6 = 0b0100010100 := by omega
    have field := extractLsb'_of_shiftRight high
    exact ⟨_, _, decodeThumb_cmpLoLo (field 7 3) (field 4 3) (field 2 2) (field 0 2)⟩
  case mov =>
    intro h lo hi
    have high : h.toNat >>> 6 = 0b0100011000 := by omega
    have field := extractLsb'_of_shiftRight high
    exact ⟨_, _, decodeThumb_movLoLo (field 7 3) (field 4 3) (field 2 2) (field 0 2)⟩
  case bx =>
    intro h lo hi
    have high : h.toNat >>> 7 = 0b010001111 := by omega
    have field := extractLsb'_of_shiftRight high
    exact ⟨_, _, _, decodeThumb_bxH1 (field 6 3) (field 3 3) (field 1 2) (bitAt_of_shiftRight high 0)⟩
  case stop => exact fun _ _ _ => ⟨rfl, rfl, rfl, fun _ => rfl⟩
  case addHiLo => exact decodeThumb_addHiLo rfl rfl rfl rfl
  case cmpLoHi => exact decodeThumb_cmpLoHi rfl rfl rfl rfl
  case movHiHi => exact decodeThumb_movHiHi rfl rfl rfl rfl
  case movHiLo => exact decodeThumb_movHiLo rfl rfl rfl rfl
  case bxHi => exact decodeThumb_bxHi rfl rfl rfl rfl rfl

end Sys2Proof
end

section
/-! O15, O16: the vectors and modes of Table 4 (60 R431), and what taking an exception saves, changes and leaves (60 R440 to
R443). -/

namespace Sys2Proof.Machine

/-- Settles O15: Table 4 row by row, the reset entry, and the entry of the other exceptions. -/
theorem exceptionVectors : Obligations.ExceptionVectors := by
  unfold Obligations.ExceptionVectors
  refine ⟨fun s => ?reset, ⟨rfl, rfl⟩, ⟨rfl, rfl⟩, ⟨rfl, rfl⟩, ⟨rfl, rfl⟩, ⟨rfl, rfl⟩, ⟨rfl, rfl⟩, ⟨rfl, rfl⟩,
    fun e => ?unused, fun s e link => ⟨s.enterException_pc e link, ?_, ?_, s.enterException_pipe e link⟩⟩
  case reset =>
    obtain ⟨hpc, hm, -, -, ht, -⟩ := s.resetEntry_spec
    exact ⟨hpc, hm, ht⟩
  case unused => cases e <;> decide
  · rw [s.enterException_cpsr e link]
  · rw [s.enterException_cpsr e link]

/-- The SPSR of a mode is not touched by a write of another mode's (10 R36). -/
theorem State.spsr_of_set_other (s t : State) (m : BitVec 5) (p : Psr) (hm : t.cpsr.m = s.cpsr.m) (hne : s.cpsr.m ≠ m)
    (hq : t.spsrs = s.spsrs.set m p) : t.spsr = s.spsr := by
  unfold Spsrs.set at hq
  split_ifs at hq with hfiq hirq hsvc habt hund
  case neg => rw [State.spsr, hm, hq]; rfl
  all_goals
    subst m
    unfold State.spsr
    rw [hm, hq]
    simp only [hne, if_false]

/-- Settles O16: the link register by the register file, the SPSRs by the modes, the rest by the fields of the entry. -/
theorem exceptionEntryState : Obligations.ExceptionEntryState := by
  unfold Obligations.ExceptionEntryState
  intro s e link t
  have hcpsr : t.cpsr = ⟨s.cpsr.n, s.cpsr.z, s.cpsr.c, s.cpsr.v, true, s.cpsr.f || e == .fiq, false, e.mode⟩ :=
    s.enterException_cpsr e link
  refine ⟨?link, s.spsr_enterException e link, ?mode, ?thumb, ?irq, ?fiqSet, ?fiqKept, ?n, ?z, ?c, ?v, rfl, rfl, ?regs,
    fun _ => rfl, rfl, rfl, ?spsrs⟩
  case link => rw [← lrOf_eq, s.enterException_getReg, if_pos rfl]
  case fiqSet => rintro rfl; rw [hcpsr]; simp
  case fiqKept => intro he; rw [hcpsr]; simp [he]
  case regs =>
    intro q hq
    rw [s.enterException_getReg, if_neg (by simpa [lrOf_eq] using hq)]
  case spsrs =>
    intro m f hne hf
    exact State.spsr_of_set_other _ _ e.mode s.cpsr ((hf _).trans (hf _).symm) (by simpa [hf] using hne) rfl
  all_goals rw [hcpsr]

end Sys2Proof.Machine
end

section
/-! The pins of 00 R7 to R11 are inputs of the machine: no instruction changes them. -/

namespace Sys2Proof.Machine

/-- Where the outcome is a state, its pins are `p`. -/
def Result.pinsAre (r : Result) (p : Pins) : Prop := ∀ t : State, r = .next t → t.pins = p

@[simp] theorem Result.pinsAre_next (t : State) (p : Pins) : Result.pinsAre (.next t) p ↔ t.pins = p :=
  ⟨fun h => h t rfl, fun h _ ht => Host.Outcome.next.inj ht ▸ h⟩

@[simp] theorem Result.pinsAre_fault (f : Fault) (p : Pins) : Result.pinsAre (.fault f) p := by
  intro t ht
  cases ht

@[simp] theorem Result.pinsAre_refused (e : Refusal) (p : Pins) : Result.pinsAre (.refused e) p := by
  intro t ht
  cases ht

section

variable (s : State) {p : Pins} (h : s.pins = p)

/-! ### Updates of the state -/

@[simp] theorem State.takeDataAbort_pins : s.takeDataAbort.pins = s.pins := rfl
@[simp] theorem State.takeUndefined_pins : s.takeUndefined.pins = s.pins := rfl
@[simp] theorem State.takeSwi_pins : s.takeSwi.pins = s.pins := rfl

@[simp] theorem State.receive_pins (rd : Reg) (v : Word) : (s.receive rd v).pins = s.pins := by
  unfold State.receive
  split <;> rfl

@[simp] theorem State.storeAll_pins (b : Bool) (a : Word) (vs : List Word) : (s.storeAll b a vs).2.pins = s.pins := by
  obtain ⟨-, -, -, -, -, hp, -⟩ := s.storeAll_keeps vs b a
  exact hp

@[simp] theorem State.coprocStore_pins (a : Word) (vs : List Word) : (s.coprocStore a vs).2.pins = s.pins := by
  obtain ⟨-, -, -, -, -, hp, -⟩ := s.coprocStore_keeps vs a
  exact hp

@[simp] theorem State.coprocLoad_pins (got : List Word) (a : Word) (vs : List Word) :
    (s.coprocLoad got a vs).2.2.pins = s.pins := by
  obtain ⟨⟨-, -, -, -, -, hp, -⟩, -⟩ := s.coprocLoad_keeps vs got a
  exact hp

@[simp] theorem LoadProgress.loadAll_pins (q : LoadProgress) (ub : Bool) (a : Word) (rs : List Reg) :
    (q.loadAll ub a rs).state.pins = q.state.pins := by
  obtain ⟨-, -, -, -, -, hp, -⟩ := q.loadAll_keeps ub rs a
  exact hp

include h

/-! ### Operations without a data access -/

theorem State.conditional_pinsAre (c : Cond) (k : State → Result) (hk : (k s).pinsAre p) :
    (s.conditional c k).pinsAre p := by
  unfold State.conditional
  split
  · exact hk
  · simpa using h

theorem State.exceptionReturn_pinsAre (v : Word) : (s.exceptionReturn v).pinsAre p := by
  unfold State.exceptionReturn
  split <;> simp [h]

theorem State.dataOp_pinsAre (op : AluOp) (c : Cond) (sf : Bool) (rn rd : Reg) (o : Op2) :
    (s.dataOp op c sf rn rd o).pinsAre p := by
  refine s.conditional_pinsAre h c _ ?_
  dsimp only
  split
  · simp
  · split
    · split
      · exact s.exceptionReturn_pinsAre h _
      · simp [h]
    · simp [h]

theorem State.testOp_pinsAre (op : TestOp) (c : Cond) (rn rd : Reg) (o : Op2) :
    (s.testOp op c rn rd o).pinsAre p := by
  refine s.conditional_pinsAre h c _ ?_
  unfold State.testP
  split
  · simp
  · split
    · split
      · simp [h]
      · split
        · simp
        · split <;> simp [h]
    · simp [h]

theorem State.writeSpsr_pinsAre (f : Psr → Psr) : (s.writeSpsr f).pinsAre p := by
  unfold State.writeSpsr
  split <;> simp [h]

theorem State.writeFlags_pinsAre (spsr : Bool) (w : Word) : (s.writeFlags spsr w).pinsAre p := by
  unfold State.writeFlags
  split
  · exact s.writeSpsr_pinsAre h _
  · simp [h]

theorem State.writeCpsr_pinsAre (w : Word) : (s.writeCpsr w).pinsAre p := by
  unfold State.writeCpsr
  split
  · split <;> simp [h]
  · simp [h]

theorem State.readPsr_pinsAre (spsr : Bool) (rd : Reg) : (s.readPsr spsr rd).pinsAre p := by
  unfold State.readPsr
  split <;> simp [h]

theorem State.multiply_pinsAre (acc sf : Bool) (rd rn rs rm : Reg) : (s.multiply acc sf rd rn rs rm).pinsAre p := by
  unfold State.multiply
  split <;> simp [State.mulEnd, h]

theorem State.multiplyLong_pinsAre (op : LongOp) (sf : Bool) (hi lo rs rm : Reg) :
    (s.multiplyLong op sf hi lo rs rm).pinsAre p := by
  unfold State.multiplyLong
  split <;> simp [State.mulLongEnd, h]

theorem State.thumbExchange_pinsAre (r : Reg) : (s.thumbExchange r).pinsAre p := by
  unfold State.thumbExchange
  split <;> simp [h]

theorem State.thumbBranchIf_pinsAre (c : Cond) (off : BitVec 8) : (s.thumbBranchIf c off).pinsAre p := by
  unfold State.thumbBranchIf
  split <;> simp [h]

/-! ### Data accesses -/

theorem State.loadInto_pinsAre (k : LoadKind) (priv : Bool) (rd : Reg) (a : Word) :
    (s.loadInto k priv rd a).pinsAre p := by
  have hr := s.dataRead_pins k.size a priv false
  unfold State.loadInto
  split <;> next e => rw [e] at hr; simpa [h] using hr

theorem State.storeFrom_pinsAre (z : Size) (priv : Bool) (a v : Word) : (s.storeFrom z priv a v).pinsAre p := by
  have hw := s.dataWrite_pins z a v priv false
  unfold State.storeFrom
  split
  · simp
  · split <;> next e => rw [e] at hw; simpa [h] using hw

theorem State.loadSingle_pinsAre (k : LoadKind) (unpriv pre u w : Bool) (rn rd : Reg) (o : Offset) :
    (s.loadSingle k unpriv pre u w rn rd o).pinsAre p := by
  unfold State.loadSingle
  split
  · simp
  · split
    · simp
    · exact State.loadInto_pinsAre _ (by simp [h]) _ _ _ _

theorem State.storeSingle_pinsAre (z : Size) (unpriv pre u w : Bool) (rn rd : Reg) (o : Offset) :
    (s.storeSingle z unpriv pre u w rn rd o).pinsAre p := by
  unfold State.storeSingle
  split
  · simp
  · split
    · simp
    · exact State.storeFrom_pinsAre _ (by simp [h]) _ _ _ _

theorem State.loadHalf_pinsAre (k : LoadKind) (pre u w : Bool) (rn rd : Reg) (o : HalfOffset) :
    (s.loadHalf k pre u w rn rd o).pinsAre p := by
  unfold State.loadHalf
  split
  · simp
  · exact State.loadInto_pinsAre _ (by simp [h]) _ _ _ _

theorem State.storeHalf_pinsAre (pre u w : Bool) (rn rd : Reg) (o : HalfOffset) :
    (s.storeHalf pre u w rn rd o).pinsAre p := by
  unfold State.storeHalf
  split
  · simp
  · exact State.storeFrom_pinsAre _ (by simp [h]) _ _ _ _

theorem State.swap_pinsAre (k : LoadKind) (rn rd rm : Reg) : (s.swap k rn rd rm).pinsAre p := by
  have hr := s.dataRead_pins k.size (s.operand rn) s.privileged true
  unfold State.swap
  split
  · simp
  · dsimp only
    split
    · next e => rw [e] at hr; simpa [h] using hr
    · next t e =>
      rw [e] at hr
      have hw := t.dataWrite_pins k.size (s.operand rn) (s.operand rm) s.privileged true
      split <;> next e' => rw [e'] at hw; simpa [h] using hw.trans hr

theorem State.loadMultiple_pinsAre (pre u sf w : Bool) (rn : Reg) (list : BitVec 16) :
    (s.loadMultiple pre u sf w rn list).pinsAre p := by
  unfold State.loadMultiple
  dsimp only
  split
  · simp
  · split
    · simp
    · split
      · simp
      · split
        · simp [h]
        · split
          · split
            · exact State.exceptionReturn_pinsAre _ (by simp [h]) _
            · simp [h]
          · simp [h]

theorem State.storeMultiple_pinsAre (pre u sf w : Bool) (rn : Reg) (list : BitVec 16) :
    (s.storeMultiple pre u sf w rn list).pinsAre p := by
  unfold State.storeMultiple
  split
  · simp
  · split
    · simp
    · simp [apply_ite State.pins, h]

/-! ### Coprocessor instructions -/

theorem State.offer_pinsAre (cp : BitVec 4) (k : Word → List Word → Result)
    (hk : ∀ (v : Word) (vs : List Word), (k v vs).pinsAre p) : (s.offer cp k).pinsAre p := by
  unfold State.offer
  split
  · simp [h]
  · split
    · simp [h]
    · simp [h]
    · exact hk _ _

theorem execStc_pinsAre (c : Cond) (pre u n w : Bool) (rn : Reg) (crd cp : BitVec 4) (off : BitVec 8) :
    (execStc c pre u n w rn crd cp off s).pinsAre p := by
  refine s.conditional_pinsAre h c _ ?_
  split
  · simp
  · refine s.offer_pinsAre h cp _ fun v vs => ?_
    simp [apply_ite State.pins, h]

theorem execLdc_pinsAre (c : Cond) (pre u n w : Bool) (rn : Reg) (crd cp : BitVec 4) (off : BitVec 8) :
    (execLdc c pre u n w rn crd cp off s).pinsAre p := by
  refine s.conditional_pinsAre h c _ ?_
  split
  · simp
  · refine s.offer_pinsAre h cp _ fun v vs => ?_
    simp [apply_ite State.pins, h]

theorem execMcr_pinsAre (c : Cond) (opc : BitVec 3) (crn : BitVec 4) (rd : Reg) (cp : BitVec 4) (info : BitVec 3)
    (crm : BitVec 4) : (execMcr c opc crn rd cp info crm s).pinsAre p := by
  refine s.conditional_pinsAre h c _ ?_
  split
  · simp [h]
  · exact s.offer_pinsAre h cp _ fun _ _ => by simp [h]

theorem execMrc_pinsAre (c : Cond) (opc : BitVec 3) (crn : BitVec 4) (rd : Reg) (cp : BitVec 4) (info : BitVec 3)
    (crm : BitVec 4) : (execMrc c opc crn rd cp info crm s).pinsAre p := by
  refine s.conditional_pinsAre h c _ ?_
  split
  · simp [h]
  · split
    · simp [h]
    · exact s.offer_pinsAre h cp _ fun _ _ => by simp [h]

end

/-! ### Every instruction -/

/-- No instruction changes the pins. The cases are grouped by the operation that the instructions share. -/
theorem exec_pinsAre (i : Instr) (s : State) : Result.pinsAre (exec i s) s.pins := by
  unfold exec
  cases i with
  | andImm | andShift | andReg | eorImm | eorShift | eorReg | subImm | subShift | subReg | rsbImm | rsbShift | rsbReg
  | addImm | addShift | addReg | adcImm | adcShift | adcReg | sbcImm | sbcShift | sbcReg | rscImm | rscShift | rscReg
  | orrImm | orrShift | orrReg | movImm | movShift | movReg | bicImm | bicShift | bicReg | mvnImm | mvnShift | mvnReg =>
    exact s.dataOp_pinsAre rfl _ _ _ _ _ _
  | tstImm | tstShift | tstReg | teqImm | teqShift | teqReg | cmpImm | cmpShift | cmpReg | cmnImm | cmnShift | cmnReg =>
    exact s.testOp_pinsAre rfl _ _ _ _ _
  | strImmPre | strImmPost | strtImm | strRegPre | strRegPost | strtReg | strbImmPre | strbImmPost | strbtImm | strbRegPre
  | strbRegPost | strbtReg =>
    exact s.conditional_pinsAre rfl _ _ (s.storeSingle_pinsAre rfl _ _ _ _ _ _ _ _)
  | ldrImmPre | ldrImmPost | ldrtImm | ldrRegPre | ldrRegPost | ldrtReg | ldrbImmPre | ldrbImmPost | ldrbtImm | ldrbRegPre
  | ldrbRegPost | ldrbtReg =>
    exact s.conditional_pinsAre rfl _ _ (s.loadSingle_pinsAre rfl _ _ _ _ _ _ _ _)
  | strhReg | strhImm => exact s.conditional_pinsAre rfl _ _ (s.storeHalf_pinsAre rfl _ _ _ _ _ _)
  | ldrhReg | ldrhImm | ldrsbReg | ldrsbImm | ldrshReg | ldrshImm =>
    exact s.conditional_pinsAre rfl _ _ (s.loadHalf_pinsAre rfl _ _ _ _ _ _ _)
  | stm => exact s.conditional_pinsAre rfl _ _ (s.storeMultiple_pinsAre rfl _ _ _ _ _ _)
  | ldm => exact s.conditional_pinsAre rfl _ _ (s.loadMultiple_pinsAre rfl _ _ _ _ _ _)
  | swp | swpb => exact s.conditional_pinsAre rfl _ _ (s.swap_pinsAre rfl _ _ _ _)
  | mul | mla => exact s.conditional_pinsAre rfl _ _ (s.multiply_pinsAre rfl _ _ _ _ _ _)
  | umull | umlal | smull | smlal => exact s.conditional_pinsAre rfl _ _ (s.multiplyLong_pinsAre rfl _ _ _ _ _ _)
  | mrs =>
    refine s.conditional_pinsAre rfl _ _ ?_
    split
    · exact Result.pinsAre_refused _ _
    · exact s.readPsr_pinsAre rfl _ _
  | msrReg =>
    refine s.conditional_pinsAre rfl _ _ ?_
    split
    · exact Result.pinsAre_refused _ _
    · split
      · exact s.writeSpsr_pinsAre rfl _
      · exact s.writeCpsr_pinsAre rfl _
  | msrFlagsReg =>
    refine s.conditional_pinsAre rfl _ _ ?_
    split
    · exact Result.pinsAre_refused _ _
    · exact s.writeFlags_pinsAre rfl _ _
  | msrFlagsImm => exact s.conditional_pinsAre rfl _ _ (s.writeFlags_pinsAre rfl _ _)
  | bx =>
    refine s.conditional_pinsAre rfl _ _ ?_
    split
    · exact Result.pinsAre_refused _ _
    · exact (Result.pinsAre_next _ _).mpr rfl
  | b | bl | swi | undef => exact s.conditional_pinsAre rfl _ _ ((Result.pinsAre_next _ _).mpr rfl)
  | cdp =>
    exact s.conditional_pinsAre rfl _ _ (s.offer_pinsAre rfl _ _ fun _ _ => (Result.pinsAre_next _ _).mpr rfl)
  | stc => exact execStc_pinsAre s rfl _ _ _ _ _ _ _ _ _
  | ldc => exact execLdc_pinsAre s rfl _ _ _ _ _ _ _ _ _
  | mcr => exact execMcr_pinsAre s rfl _ _ _ _ _ _ _
  | mrc => exact execMrc_pinsAre s rfl _ _ _ _ _ _ _
  | tLslImm | tLsrImm | tAsrImm | tAddReg | tSubReg | tAddImm3 | tSubImm3 | tMovImm | tCmpImm | tAddImm8 | tSubImm8
  | tAnd | tEor | tLslReg | tLsrReg | tAsrReg | tAdc | tSbc | tRorReg | tTst | tNeg | tCmp | tCmn | tOrr | tMul | tBic
  | tMvn | tCmpLoHi | tCmpHiLo | tCmpHiHi | tB | tBlHigh | tBlLow | tSwi | tUndefCond | tUndefB1 | tUndefB2 | tUndefB6
  | tUndefB8 | tUndefBe | tUndefE8 =>
    exact (Result.pinsAre_next _ _).mpr rfl
  | tAddLoHi | tAddHiLo | tAddHiHi | tMovLoHi | tMovHiLo | tMovHiHi | tAddPc | tAddSp | tAddSpPos | tAddSpNeg =>
    exact (Result.pinsAre_next _ _).mpr (s.finish_pins _ _)
  | tAddLoLo | tCmpLoLo | tMovLoLo | tBxH1 => exact Result.pinsAre_refused _ _
  | tBxLo | tBxHi => exact s.thumbExchange_pinsAre rfl _
  | tBeq | tBne | tBcs | tBcc | tBmi | tBpl | tBvs | tBvc | tBhi | tBls | tBge | tBlt | tBgt | tBle =>
    exact s.thumbBranchIf_pinsAre rfl _ _
  | tLdrPc | tLdrReg | tLdrbReg | tLdrhReg | tLdsbReg | tLdshReg | tLdrImm | tLdrbImm | tLdrhImm | tLdrSp =>
    exact s.loadInto_pinsAre rfl _ _ _ _
  | tStrReg | tStrbReg | tStrhReg | tStrImm | tStrbImm | tStrhImm | tStrSp => exact s.storeFrom_pinsAre rfl _ _ _ _
  | tPush | tPushLr | tStmia => exact s.storeMultiple_pinsAre rfl _ _ _ _ _ _
  | tPop | tPopPc | tLdmia => exact s.loadMultiple_pinsAre rfl _ _ _ _ _ _

theorem exec_pins {i : Instr} {s t : State} (h : exec i s = .next t) : t.pins = s.pins :=
  exec_pinsAre i s t h

end Sys2Proof.Machine
end

section
/-! O9: the step with DBGEN LOW, around the instruction that it executes (60 R436, steps 7 to 9; 61 R491). -/

namespace Sys2Proof.Machine

/-! ### The memory cycles of a filled queue -/

section

variable (s : State)

/-- One memory cycle for each place of the queue that was empty. -/
theorem State.fillPipe_bus_length (n : Nat) : (s.fillPipe n).bus.length = s.bus.length + (n - s.pipe.length) := by
  obtain ⟨x, y, z, e, q, cs, h, -, hl⟩ := s.fillPipe_state n
  have hlen := s.fillPipe_length n
  rw [h] at hlen ⊢
  simp only [List.length_append] at hlen ⊢
  omega

theorem State.mem_fillPipe_bus (n : Nat) {c : BusCycle} (hc : c ∈ s.bus) : c ∈ (s.fillPipe n).bus := by
  obtain ⟨x, y, z, e, q, cs, h, -, -⟩ := s.fillPipe_state n
  rw [h]
  exact List.mem_append_left cs hc

/-- What the pins show of a fetch does not depend on the queue (20 R84). -/
theorem State.fillPipe_fetches (n k : Nat) (c : BusCycle) : (s.fillPipe n).fetches c k ↔ s.fetches c k := by
  simp [State.fetches, State.fetched]

/-- The fetch into a queue filled up to `n` is that of the instruction `n` places after the PC. -/
theorem State.fetches_nextFetch_fillPipe (n : Nat) (h : s.pipe.length ≤ n) : s.fetches (s.fillPipe n).nextFetch n := by
  have ha : (s.fillPipe n).fetchAddr = (s.fillPipe n).pc + BitVec.ofNat 32 n * (s.fillPipe n).instrBytes := by
    rw [State.fetchAddr, State.fillPipe_length, Nat.max_eq_right h]
  rw [← s.fillPipe_fetches n, State.nextFetch, ha]
  exact State.fetches_fetchCycle (s.fillPipe n) _ _ n _

/-- The memory cycles that fill the queue, in their order: the fetches of the places that were empty (10 R45, 20 R76). -/
theorem State.fetches_of_fillPipe_bus {n k : Nat} {c : BusCycle} (hc : (s.fillPipe n).bus[s.bus.length + k]? = some c) :
    s.fetches c (s.pipe.length + k) := by
  have none_new : s.bus[s.bus.length + k]? = none := List.getElem?_eq_none (Nat.le_add_right _ k)
  induction n with
  | zero => exact absurd (none_new.symm.trans hc) nofun
  | succ n ih =>
    by_cases hn : s.pipe.length ≤ n
    · obtain ⟨x, y, z, b, hp⟩ := (s.fillPipe n).prefetch_state
      have hlen := s.fillPipe_bus_length n
      rw [State.fillPipe, if_pos hn, hp] at hc
      by_cases hk : s.bus.length + k < (s.fillPipe n).bus.length
      · exact ih ((List.getElem?_append_left hk).symm.trans hc)
      · have hlast := List.mem_of_getElem? ((List.getElem?_append_right (Nat.le_of_not_lt hk)).symm.trans hc)
        have hbound := (List.getElem?_eq_some_iff.mp hc).1
        rw [List.length_append, List.length_singleton] at hbound
        rw [List.mem_singleton.mp hlast, show s.pipe.length + k = n by omega]
        exact s.fetches_nextFetch_fillPipe n hn
    · rw [State.fillPipe, if_neg hn] at hc
      exact absurd (none_new.symm.trans hc) nofun

end

/-! ### The step -/

section

variable {s : State} (hd : s.pins.dbgen = false)
include hd

/-- With DBGEN LOW only the prefetch-abort mark keeps an instruction from executing (61 R491). -/
theorem State.instructionStep_off (ha : s.head.aborted = false) : s.instructionStep = s.executeNext := by
  rw [State.instructionStep, if_neg (by simp [ha]), if_neg (by simp [hd])]

/-- The instruction that the step decodes: the one in the head of the queue, or as its fetch finds it. -/
theorem State.fillPipe_three_head : (s.fillPipe 3).head = s.slot 0 :=
  (s.fillPipe 3).head_of_get (s.fillPipe_slot 3 0 (by decide) hd)

/-- With DBGEN LOW a quiet step is the execution of the instruction in a filled queue. -/
theorem step_eq_executeNext (hr : s.running) (hq : s.quiet) (ha : (s.beginStep.slot 0).aborted = false) :
    step s = (s.beginStep.fillPipe 3).executeNext := by
  have hb : (s.beginStep.fillPipe 3).pins.dbgen = false := by rw [State.fillPipe_pins]; exact hd
  have hab : (s.beginStep.fillPipe 3).head.aborted = false := by
    rw [State.fillPipe_three_head (s := s.beginStep) hd, ha]
  exact (step_of_running_quiet s hr hq).trans (State.instructionStep_off hb hab)

/-- The end of an instruction of which no data access was aborted is the refill. -/
theorem State.endInstruction_off_of_not_aborted (before : State)
    (h : ∀ c ∈ s.bus, c.fetch = false → c.aborted = false) : s.endInstruction before = s.fillPipe 2 := by
  rw [s.endInstruction_off before hd, s.abortFetch_none before h]

/-- After an aborted data access the first fetch of the abort's entry stands before the refill (70 R546, log 76). -/
theorem State.endInstruction_off_of_aborted (before : State) (h : ∃ c ∈ s.bus, c.fetch = false ∧ c.aborted = true) :
    ∃ e : BusCycle, before.fetches e 3 ∧
      s.endInstruction before = ({ s with bus := s.bus ++ [e] } : State).fillPipe 2 := by
  obtain ⟨x, y, z, e, he, hs, hdbg⟩ := s.abortFetch_some before h
  refine ⟨e, he, ?_⟩
  rw [s.endInstruction_off before hd, hs, hdbg hd]

end

/-- Settles O9: the step up to the instruction on the filled queue, the end of the instruction, and the refill. -/
theorem stepRunsDecodedInstruction : Obligations.StepRunsDecodedInstruction := by
  unfold Obligations.StepRunsDecodedInstruction
  refine ⟨?step, ?refill⟩
  case step =>
    intro s i inp b w hd hr hq ha hi
    have hdec : (b.fillPipe 3).decodeNext = .ok i := by
      rw [State.decodeNext, State.opcode, State.fillPipe_three_head (s := b) hd, State.fillPipe_cpsr]
      exact hi
    have hstep : step s = (b.fillPipe 3).executeNext := step_eq_executeNext hd hr hq ha
    have hoff : ∀ t : State, exec i (b.fillPipe 3) = .next t → t.pins.dbgen = false := fun t ht => by
      rw [exec_pins ht, State.fillPipe_pins]
      exact hd
    obtain ⟨hnext, hfault, hrefused⟩ := State.executeNext_of_decoded hdec
    obtain ⟨hbus, -⟩ := s.fillPipe_beginStep_bus 3
    refine ⟨b.fillPipe 3, fun t ht hn => ?completes, fun t ht hab => ?aborts, fun f hf => hstep.trans (hfault f hf),
      fun e he => hstep.trans (hrefused e he), ?_⟩
    case completes =>
      rw [hstep, hnext t ht, State.endInstruction_off_of_not_aborted (hoff t ht) _ hn]
    case aborts =>
      obtain ⟨e, he, hend⟩ := State.endInstruction_off_of_aborted (hoff t ht) (b.fillPipe 3) hab
      exact ⟨e, (b.fillPipe_fetches 3 3 e).mp he, by rw [hstep, hnext t ht, hend]⟩
    simp only [State.fillPipe_regs, State.fillPipe_pc, State.fillPipe_cpsr, State.fillPipe_spsrs, State.fillPipe_mem,
      State.fillPipe_pins, State.fillPipe_inp, State.fillPipe_env, State.fillPipe_hazard, State.fillPipe_cpLog]
    refine ⟨rfl, rfl, rfl, rfl, rfl, rfl, rfl, rfl, rfl, rfl, fun k hk => b.fillPipe_slot 3 k hk hd, fun hl => ?_, hbus,
      fun k c hc => ?_, b.fillPipe_dbg_off 3 hd⟩
    · rw [State.fillPipe_length]
      exact Nat.max_eq_right hl
    · exact b.fetches_of_fillPipe_bus (by simpa [b] using hc)
  case refill =>
    intro t hd
    exact ⟨⟨t.fillPipe_regs 2, t.fillPipe_cpsr 2, t.fillPipe_spsrs 2, t.fillPipe_mem 2⟩, t.fillPipe_pc 2,
      t.fillPipe_dbg_off 2 hd, t.fillPipe_pins 2, t.fillPipe_hazard 2, t.fillPipe_of_le 2,
      fun k hk => t.fillPipe_slot 2 k hk hd, fun _ hc => t.mem_fillPipe_bus 2 hc, t.fillPipe_bus_length 2⟩

end Sys2Proof.Machine
end

section
/-! O29: MSR on the CPSR (42 R212, R213, R214, 61 R493). -/

namespace Sys2Proof.Machine

section

variable {s : State}

/-- A privileged mode, and any mode in debug state, writes all twelve bits, of which T must not change (42 R212, U1). -/
theorem State.writeCpsr_control (w : Word) (h : s.cpsr.m ≠ modeUsr ∨ s.dbg.active = true) : s.writeCpsr w =
    if w.getLsbD 5 = s.cpsr.t then .next (s.withCpsr (Psr.ofWord w)).advance else .fault .stateBitChanged :=
  if_pos (by simpa [State.privileged] using h)

theorem State.writeCpsr_next (w : Word) (h : s.cpsr.m ≠ modeUsr ∨ s.dbg.active = true) (ht : w.getLsbD 5 = s.cpsr.t) :
    ∃ t : State, s.writeCpsr w = .next t ∧ s.setsFlags t (Psr.ofWord w) :=
  ⟨_, (State.writeCpsr_control w h).trans (if_pos ht), s.setsFlags_advance _ ht⟩

theorem State.writeCpsr_fault (w : Word) (h : s.cpsr.m ≠ modeUsr ∨ s.dbg.active = true) (ht : w.getLsbD 5 ≠ s.cpsr.t) :
    s.writeCpsr w = .fault .stateBitChanged :=
  (State.writeCpsr_control w h).trans (if_neg ht)

theorem State.writeFlags_cpsr (w : Word) :
    ∃ t : State, s.writeFlags false w = .next t ∧ s.setsFlags t (s.cpsr.withFlags w) :=
  ⟨_, rfl, s.setsFlags_advance _ rfl⟩

/-- In User mode, outside debug state, MSR to the CPSR is the flag form (42 R214). -/
theorem State.writeCpsr_user (w : Word) (hm : s.cpsr.m = modeUsr) (hd : s.dbg.active = false) :
    s.writeCpsr w = s.writeFlags false w :=
  if_neg (by simp [State.privileged, hm, hd])

/-! ### The three forms, where the condition passes -/

variable {c : Cond} (hc : condPassed c s.cpsr = true)
include hc

theorem exec_msrReg (rm : Reg) (hr : rm ≠ 15#4) : exec (.msrReg c false rm) s = s.writeCpsr (s.operand rm) := by
  show execMsrReg c false rm s = _
  rw [execMsrReg, State.conditional_pass _ _ _ hc, if_neg hr]
  rfl

theorem exec_msrFlagsReg (rm : Reg) (hr : rm ≠ 15#4) :
    exec (.msrFlagsReg c false rm) s = s.writeFlags false (s.operand rm) := by
  show execMsrFlagsReg c false rm s = _
  rw [execMsrFlagsReg, State.conditional_pass _ _ _ hc, if_neg hr]

theorem exec_msrFlagsImm (rot : BitVec 4) (imm : BitVec 8) : exec (.msrFlagsImm c false rot imm) s =
    s.writeFlags false ((imm.setWidth 32 : Word).rotateRight (2 * rot.toNat)) := by
  show execMsrFlagsImm c false rot imm s = _
  rw [execMsrFlagsImm, State.conditional_pass _ _ _ hc]
  rfl

end

/-- Settles O29, from the two writes that MSR makes: all twelve bits, or the flags. -/
theorem msrWritesCpsr : Obligations.MsrWritesCpsr := by
  unfold Obligations.MsrWritesCpsr
  intro s c rm rot imm ht hc hr flags
  rw [exec_msrReg hc rm hr, exec_msrFlagsReg hc rm hr, exec_msrFlagsImm hc rot imm]
  refine ⟨fun hp h5 => State.writeCpsr_next _ hp (h5.trans ht.symm),
    fun hp h5 => State.writeCpsr_fault _ hp (by rw [h5, ht]; decide), fun hm hd => ?_,
    State.writeFlags_cpsr _, State.writeFlags_cpsr _⟩
  rw [State.writeCpsr_user _ hm hd]
  exact State.writeFlags_cpsr _

end Sys2Proof.Machine
end

section
/-! O34: BX of both instruction sets (40 R160, 47 R352). -/

namespace Sys2Proof.Machine

theorem hiReg_eq_pc_iff (r : LoReg) : hiReg r = 15#4 ↔ r = 7#3 := by
  revert r; decide

section

variable (s : State)

theorem State.jumps_exchange (v : Word) : s.jumps (s.exchange v) v { s.cpsr with t := v.getLsbD 0 } :=
  s.jumps_branch v _

theorem exec_bx {c : Cond} {rn : Reg} (hc : condPassed c s.cpsr = true) (hr : rn ≠ 15#4) :
    exec (.bx c rn) s = .next (s.exchange (s.operand rn)) := by
  show execBx c rn s = _
  rw [execBx, State.conditional_pass _ _ _ hc, if_neg hr]

/-- THUMB BX completes, but for BX PC outside debug state at an address that is not word aligned (U42). -/
theorem State.thumbExchange_jumps (r : Reg) (h : r = 15#4 → s.pc.getLsbD 1 = false ∨ s.dbg.active = true) :
    ∃ t : State, s.thumbExchange r = .next t ∧
      s.jumps t (s.operand r) { s.cpsr with t := (s.operand r).getLsbD 0 } := by
  have hn : ¬ (decide (r = 15#4) && s.pc.getLsbD 1 && !s.dbg.active) = true := by
    simp only [Bool.and_eq_true, decide_eq_true_eq, Bool.not_eq_true']
    rintro ⟨⟨hr, hp⟩, ha⟩
    rcases h hr with h | h
    · exact absurd (hp.symm.trans h) nofun
    · exact absurd (ha.symm.trans h) nofun
  exact ⟨_, if_neg hn, s.jumps_exchange _⟩

theorem State.thumbExchange_misaligned (hp : s.pc.getLsbD 1 = true) (ha : s.dbg.active = false) :
    s.thumbExchange 15#4 = .fault .bxPcMisaligned :=
  if_pos (by simp [hp, ha])

end

/-- Settles O34, from the one exchange that both instruction sets make. -/
theorem branchExchange : Obligations.BranchExchange := by
  unfold Obligations.BranchExchange
  refine ⟨fun s c rn _ hc hr => ?_, fun s rs x _ => ?_, fun s rs x _ h => ?_, fun s x ha hp => ?_⟩
  · exact ⟨_, exec_bx s hc hr, s.jumps_exchange _⟩
  · exact s.thumbExchange_jumps _ fun hr => absurd hr (loReg_ne rs)
  · exact s.thumbExchange_jumps _ fun hr => h ((hiReg_eq_pc_iff rs).mp hr)
  · exact s.thumbExchange_misaligned hp ha

end Sys2Proof.Machine
end

section
/-! O46: the coprocessor handshake (46 R295 to R297, 00 R9). -/

namespace Sys2Proof.Machine

/-! ### The handshake -/

section

variable {s : State} {cp : BitVec 4} (k : Word → List Word → Result)

/-- No coprocessor answers: number 14 is none, none is attached, or the one attached answers absent (46 R295). -/
theorem State.offer_absent (h : cp = 14#4 ∨ s.pins.coprocPresent.getLsbD cp.toNat = false ∨ s.inp.cop = .absent) :
    s.offer cp k = .next s.takeUndefined := by
  unfold State.offer
  split
  · rfl
  · next hn =>
    have hc : s.inp.cop = .absent := by
      rcases h with h | h | h
      · exact absurd (by simp [h]) hn
      · exact absurd (by simp [h]) hn
      · exact h
    rw [hc]

/-- A coprocessor that is attached and busy leaves the instruction to be offered again (46 R297). -/
theorem State.offer_busy (hcp : cp ≠ 14#4) (hp : s.pins.coprocPresent.getLsbD cp.toNat = true) (hb : s.inp.cop = .busy) :
    s.offer cp k = .next s := by
  rw [State.offer, if_neg (by simp [hcp, hp]), hb]

end

/-! ### The instructions that are offered -/

/-- A well-formed LDC or STC does not write back R15 (46 R304). -/
theorem coprocBase_of_wf {w : Bool} {rn : Reg} (h : (!(w && rn == 15#4)) = true) :
    ¬ (decide (rn = 15#4) && w) = true := by
  rw [beq_eq_decide, Bool.and_comm] at h
  exact Bool.eq_false_iff.mp (Bool.not_eq_true' _ ▸ h)

theorem State.conditional_eq_offer {s : State} {c : Cond} {cp : BitVec 4} {f : State → Result}
    (hc : condPassed c s.cpsr = true) (h : ∃ k : Word → List Word → Result, f s = s.offer cp k) :
    ∃ k : Word → List Word → Result, s.conditional c f = s.offer cp k :=
  s.conditional_pass c f hc ▸ h

/-- The form of MCR that the comms channel accepts, with DBGEN HIGH (61 R499). -/
theorem State.commsAccepts_mcr (s : State) (c : Cond) (opc : BitVec 3) (crn : BitVec 4) (rd : Reg) (cp : BitVec 4)
    (info : BitVec 3) (crm : BitVec 4) : (s.commsAccepts cp opc info crm && decide (crn = 1#4)) =
      (s.pins.dbgen && (Instr.mcr c opc crn rd cp info crm).commsForm) := by
  rw [Bool.eq_iff_iff]
  simp only [State.commsAccepts, Instr.commsForm, Bool.and_eq_true, beq_iff_eq, decide_eq_true_eq]
  tauto

/-- The forms of MRC that the comms channel accepts, with DBGEN HIGH (61 R499). -/
theorem State.commsAccepts_mrc (s : State) (c : Cond) (opc : BitVec 3) (crn : BitVec 4) (rd : Reg) (cp : BitVec 4)
    (info : BitVec 3) (crm : BitVec 4) : (s.commsAccepts cp opc info crm && (decide (crn = 0#4) || decide (crn = 1#4))) =
      (s.pins.dbgen && (Instr.mrc c opc crn rd cp info crm).commsForm) := by
  rw [Bool.eq_iff_iff]
  simp only [State.commsAccepts, Instr.commsForm, Bool.and_eq_true, Bool.or_eq_true, beq_iff_eq, decide_eq_true_eq]
  tauto

/-- A coprocessor instruction that the comms channel does not accept is offered to the coprocessor of its number. -/
theorem exec_eq_offer {s : State} {i : Instr} {cp : BitVec 4} (hi : i.coprocessor = some cp) (hwf : i.wf = true)
    (hp : i.passes s) (h : s.pins.dbgen = false ∨ i.commsForm = false) :
    ∃ k : Word → List Word → Result, exec i s = s.offer cp k := by
  unfold exec
  have hform : (s.pins.dbgen && i.commsForm) = false := Bool.and_eq_false_iff.mpr h
  cases i with
  | cdp c =>
    cases hi
    refine State.conditional_eq_offer (hp c rfl) ?_
    exact ⟨_, rfl⟩
  | stc c =>
    cases hi
    refine State.conditional_eq_offer (hp c rfl) ?_
    exact ⟨_, if_neg (coprocBase_of_wf hwf)⟩
  | ldc c =>
    cases hi
    refine State.conditional_eq_offer (hp c rfl) ?_
    exact ⟨_, if_neg (coprocBase_of_wf hwf)⟩
  | mcr c =>
    cases hi
    rw [← s.commsAccepts_mcr] at hform
    refine State.conditional_eq_offer (hp c rfl) ?_
    exact ⟨_, if_neg (Bool.eq_false_iff.mp hform)⟩
  | mrc c =>
    cases hi
    rw [← s.commsAccepts_mrc, Bool.and_or_distrib_left, Bool.or_eq_false_iff] at hform
    obtain ⟨hcontrol, hdata⟩ := hform
    refine State.conditional_eq_offer (hp c rfl) ?_
    exact ⟨_, (if_neg (Bool.eq_false_iff.mp hcontrol)).trans (if_neg (Bool.eq_false_iff.mp hdata))⟩
  | _ => exact absurd hi nofun

/-- Settles O46: the instruction is an offer to the coprocessor, and the offer traps or waits. -/
theorem coprocessorHandshake : Obligations.CoprocessorHandshake := by
  unfold Obligations.CoprocessorHandshake
  intro s i cp hi hwf hp ht hcomms
  obtain ⟨k, hk⟩ := exec_eq_offer hi hwf hp hcomms
  have htrap : s.takeUndefined = s.enterException .undefined (s.pc + 4#32) := by
    rw [State.takeUndefined, State.instrBytes, ht]
    rfl
  rw [hk, ← htrap]
  exact ⟨State.offer_absent k, State.offer_busy k⟩

end Sys2Proof.Machine
end

section
/-! O49: the debug comms channel from both sides (61 R498 to R501). -/

namespace Sys2Proof.Machine

/-! ### The control register -/

section

variable (s : State)

/-- The bits of comms control: the version from bit 28 up, free bits, W and R (61 R498). -/
theorem State.commsControl_getLsbD (k : Nat) : s.commsControl.getLsbD k =
    if k < 28 then (if k < 2 then (if k < 1 then s.dbg.commsR else s.dbg.commsW)
      else (Config.commsReserved s.freeCtr).getLsbD (k - 2)) else (1#4).getLsbD (k - 28) := by
  rw [State.commsControl]
  grind

theorem State.commsControl_version : s.commsControl.extractLsb' 28 4 = 1#4 := by
  rw [State.commsControl]
  exact BitVec.extractLsb'_append_eq_left

/-- The flags that the version gives to an MRC with R15 as Rd (46 R306). -/
theorem Psr.withFlags_commsControl (p : Psr) :
    p.withFlags s.commsControl = { p with n := false, z := false, c := false, v := true } := by
  simp only [Psr.withFlags, State.commsControl_getLsbD]
  rfl

/-! ### The word that an MCR sends and an MRC receives -/

/-- R15 is sent 12 ahead (46 R307). -/
theorem State.operandFar_eq (r : Reg) : s.operandFar r = if r = 15#4 then s.pc + 12#32 else s.operand r := by
  unfold State.operandFar State.operand State.readReg
  split
  · rfl
  · rfl

theorem State.sets_receive {rd : Reg} (h : rd ≠ 15#4) (v : Word) : s.sets (s.receive rd v) rd v s.cpsr := by
  rw [State.receive, if_neg h]
  exact s.sets_writeReg rd v

theorem State.setsFlags_receive (v : Word) : s.setsFlags (s.receive 15#4 v) (s.cpsr.withFlags v) :=
  s.setsFlags_advance (s.cpsr.withFlags v) rfl

theorem State.instrBytes_arm {s : State} (h : s.cpsr.t = false) : s.instrBytes = 4#32 := by
  rw [State.instrBytes, h]
  rfl

end

/-! ### The processor's three instructions -/

section

variable {s : State} {c : Cond} (hc : condPassed c s.cpsr = true) (hd : s.pins.dbgen = true) (rd : Reg)
include hc hd

theorem exec_mcr_comms : exec (.mcr c 0#3 1#4 rd 14#4 0#3 0#4) s =
    .next { s with dbg := { s.dbg with commsWrite := s.operandFar rd, commsW := true } }.advanceNonSeq := by
  show execMcr c 0#3 1#4 rd 14#4 0#3 0#4 s = _
  rw [execMcr, State.conditional_pass _ _ _ hc, if_pos (by simp [State.commsAccepts, hd])]

theorem exec_mrc_commsRead : exec (.mrc c 0#3 1#4 rd 14#4 0#3 0#4) s =
    .next ({ s with dbg := { s.dbg with commsR := false } }.receive rd s.dbg.commsRead) := by
  show execMrc c 0#3 1#4 rd 14#4 0#3 0#4 s = _
  rw [execMrc, State.conditional_pass _ _ _ hc, if_neg (by simp), if_pos (by simp [State.commsAccepts, hd])]

theorem exec_mrc_commsControl : exec (.mrc c 0#3 0#4 rd 14#4 0#3 0#4) s = .next (s.receive rd s.commsControl) := by
  show execMrc c 0#3 0#4 rd 14#4 0#3 0#4 s = _
  rw [execMrc, State.conditional_pass _ _ _ hc, if_pos (by simp [State.commsAccepts, hd])]

end

/-- Settles O49: the three instructions of the processor, the debugger's read and write, and the pins. -/
theorem commsChannel : Obligations.CommsChannel := by
  unfold Obligations.CommsChannel
  refine ⟨fun s c rd ht hc hd => ?_, fun s => ⟨rfl, Bool.and_false _⟩, fun g v => ⟨rfl, rfl⟩, fun s => ⟨?_, ?_⟩⟩
  · have hpc : s.pc + s.instrBytes = s.pc + 4#32 := by rw [State.instrBytes_arm ht]
    let u : State := { s with dbg := { s.dbg with commsR := false } }
    refine ⟨?_, fun hr => ?_, ?_, fun hr => ?_, ?_⟩
    · rw [exec_mcr_comms hc hd, s.operandFar_eq]
      exact ⟨_, rfl, ⟨rfl, hpc, rfl, rfl, fun _ _ => rfl, fun _ => rfl⟩, rfl, rfl⟩
    · obtain ⟨hv, hq, hp, hregs, hmem, hspsrs, hdbg, hpins⟩ := u.sets_receive hr s.dbg.commsRead
      exact ⟨_, exec_mrc_commsRead hc hd rd, ⟨hq, hp.trans hpc, hspsrs, hpins, hregs, hmem⟩, hv, hdbg⟩
    · obtain ⟨hq, hp, hregs, hmem, hspsrs, hdbg, hpins⟩ := u.setsFlags_receive s.dbg.commsRead
      exact ⟨_, exec_mrc_commsRead hc hd 15#4, ⟨hq, hp.trans hpc, hspsrs, hpins, hregs, hmem⟩, hdbg⟩
    · exact ⟨_, _, exec_mrc_commsControl hc hd rd, s.sets_receive hr _, s.commsControl_version,
        s.commsControl_getLsbD 1, s.commsControl_getLsbD 0⟩
    · rw [exec_mrc_commsControl hc hd, ← s.cpsr.withFlags_commsControl]
      exact ⟨_, rfl, s.setsFlags_receive _⟩
  · exact Bool.not_eq_true' s.dbg.commsR ▸ Iff.rfl
  · exact Bool.not_eq_true' s.dbg.commsW ▸ Iff.rfl

end Sys2Proof.Machine
end

section
/-! What an instruction is made of, whatever it is, as the parts of the machine around the core see it: updates of the core,
data accesses, and writes of the comms channel (61 R499). What all of these keep, every instruction keeps. -/

namespace Sys2Proof.Machine

/-! ### The relation -/

/-- The parts of the state that are not the core's own: memory, pins, inputs, the debug state and the counters. -/
def State.outside (s : State) : State :=
  { State.reset with
    mem := s.mem, pins := s.pins, env := s.env, inp := s.inp, dbg := s.dbg, resetCycles := s.resetCycles, freeCtr := s.freeCtr }

/-- `t` is what `s` comes to by updates of the core's own state, data accesses, and, with DBGEN HIGH, writes of the
processor's side of the comms channel. -/
inductive State.comesTo (s : State) : State → Prop
  | refl : s.comesTo s
  | update {t u : State} (h : s.comesTo t) (hu : u.outside = t.outside) : s.comesTo u
  | read {t : State} (h : s.comesTo t) (z : Size) (a : Word) (priv lock : Bool) : s.comesTo (t.dataRead z a priv lock).2
  | write {t : State} (h : s.comesTo t) (z : Size) (a v : Word) (priv lock : Bool) :
    s.comesTo (t.dataWrite z a v priv lock).2
  | comms {t : State} (h : s.comesTo t) (hd : t.pins.dbgen = true) (v : Word) (w r : Bool) :
    s.comesTo { t with dbg := { t.dbg with commsWrite := v, commsW := w, commsR := r } }

/-- The same of the state that an outcome goes on in. -/
def State.comesToIn (s : State) (r : Result) : Prop := ∀ t : State, r = .next t → s.comesTo t

@[simp] theorem State.comesToIn_next (s t : State) : s.comesToIn (.next t) ↔ s.comesTo t :=
  ⟨fun h => h t rfl, fun h _ hu => Host.Outcome.next.inj hu ▸ h⟩

@[simp] theorem State.comesToIn_fault (s : State) (f : Fault) : s.comesToIn (.fault f) :=
  fun _ h => by cases h

@[simp] theorem State.comesToIn_refused (s : State) (e : Refusal) : s.comesToIn (.refused e) :=
  fun _ h => by cases h

section

variable {s t : State} (h : s.comesTo t)
include h

theorem State.comesTo.next_update {u : State} (hu : u.outside = t.outside) : s.comesToIn (.next u) :=
  (s.comesToIn_next u).mpr (h.update hu)

/-- An instruction that ends in one of two ways, such as a data abort or the next instruction. -/
theorem State.comesTo.next_ite {b : Bool} {u v : State} (hu : u.outside = t.outside) (hv : v.outside = t.outside) :
    s.comesToIn (.next (if b then u else v)) := by
  refine h.next_update ?_
  cases b
  · exact hv
  · exact hu

/-! ### Operations without a data access -/

theorem State.comesTo.conditional (c : Cond) (k : State → Result) (hk : s.comesToIn (k t)) :
    s.comesToIn (t.conditional c k) := by
  unfold State.conditional
  split
  · exact hk
  · exact h.next_update rfl

theorem State.comesTo.finish (rd : Reg) (v : Word) : s.comesTo (t.finish rd v) := by
  refine h.update ?_
  unfold State.finish
  split <;> rfl

theorem State.comesTo.exceptionReturn (v : Word) : s.comesToIn (t.exceptionReturn v) := by
  unfold State.exceptionReturn
  split
  · exact s.comesToIn_fault _
  · exact h.next_update rfl

theorem State.comesTo.dataOp (op : AluOp) (c : Cond) (sf : Bool) (rn rd : Reg) (o : Op2) :
    s.comesToIn (t.dataOp op c sf rn rd o) := by
  refine h.conditional c _ ?_
  dsimp only
  split
  · exact s.comesToIn_refused _
  · split
    · split
      · exact h.exceptionReturn _
      · exact h.next_update rfl
    · exact h.next_update rfl

theorem State.comesTo.testOp (op : TestOp) (c : Cond) (rn rd : Reg) (o : Op2) : s.comesToIn (t.testOp op c rn rd o) := by
  refine h.conditional c _ ?_
  unfold State.testP
  split
  · exact s.comesToIn_refused _
  · split
    · split
      · exact h.next_update rfl
      · split
        · exact s.comesToIn_fault _
        · split
          · exact h.next_update rfl
          · exact s.comesToIn_fault _
    · exact h.next_update rfl

theorem State.comesTo.writeSpsr (f : Psr → Psr) : s.comesToIn (t.writeSpsr f) := by
  unfold State.writeSpsr
  split
  · exact s.comesToIn_fault _
  · exact h.next_update rfl

theorem State.comesTo.writeFlags (spsr : Bool) (w : Word) : s.comesToIn (t.writeFlags spsr w) := by
  unfold State.writeFlags
  split
  · exact h.writeSpsr _
  · exact h.next_update rfl

theorem State.comesTo.writeCpsr (w : Word) : s.comesToIn (t.writeCpsr w) := by
  unfold State.writeCpsr
  split
  · split
    · exact h.next_update rfl
    · exact s.comesToIn_fault _
  · exact h.next_update rfl

theorem State.comesTo.readPsr (spsr : Bool) (rd : Reg) : s.comesToIn (t.readPsr spsr rd) := by
  unfold State.readPsr
  split
  · exact s.comesToIn_fault _
  · exact h.next_update rfl

theorem State.comesTo.multiply (acc sf : Bool) (rd rn rs rm : Reg) : s.comesToIn (t.multiply acc sf rd rn rs rm) := by
  unfold State.multiply
  split
  · exact s.comesToIn_refused _
  · exact h.next_update rfl

theorem State.comesTo.multiplyLong (op : LongOp) (sf : Bool) (hi lo rs rm : Reg) :
    s.comesToIn (t.multiplyLong op sf hi lo rs rm) := by
  unfold State.multiplyLong
  split
  · exact s.comesToIn_refused _
  · exact h.next_update rfl

theorem State.comesTo.thumbExchange (r : Reg) : s.comesToIn (t.thumbExchange r) := by
  unfold State.thumbExchange
  split
  · exact s.comesToIn_fault _
  · exact h.next_update rfl

theorem State.comesTo.thumbBranchIf (c : Cond) (off : BitVec 8) : s.comesToIn (t.thumbBranchIf c off) := by
  refine h.next_update ?_
  split <;> rfl

/-! ### Single data accesses -/

theorem State.comesTo.writeBase (wb : Bool) (rn : Reg) (v : Word) : s.comesTo (t.writeBase wb rn v) :=
  h.update (by cases wb <;> rfl)

theorem State.comesTo.loadInto (k : LoadKind) (p : Bool) (rd : Reg) (a : Word) : s.comesToIn (t.loadInto k p rd a) := by
  have hr := h.read k.size a p false
  unfold State.loadInto
  split
  · next e => rw [e] at hr; exact hr.next_update rfl
  · next e => rw [e] at hr; exact (s.comesToIn_next _).mpr (hr.finish _ _)

theorem State.comesTo.storeFrom (z : Size) (p : Bool) (a v : Word) : s.comesToIn (t.storeFrom z p a v) := by
  have hw := h.write z a v p false
  unfold State.storeFrom
  split
  · exact s.comesToIn_fault _
  · split <;> next e => rw [e] at hw; exact hw.next_update rfl

theorem State.comesTo.loadSingle (k : LoadKind) (unpriv p u w : Bool) (rn rd : Reg) (o : Offset) :
    s.comesToIn (t.loadSingle k unpriv p u w rn rd o) := by
  unfold State.loadSingle
  split
  · exact s.comesToIn_refused _
  · split
    · exact s.comesToIn_refused _
    · exact (h.writeBase _ _ _).loadInto _ _ _ _

theorem State.comesTo.storeSingle (z : Size) (unpriv p u w : Bool) (rn rd : Reg) (o : Offset) :
    s.comesToIn (t.storeSingle z unpriv p u w rn rd o) := by
  unfold State.storeSingle
  split
  · exact s.comesToIn_refused _
  · split
    · exact s.comesToIn_refused _
    · exact (h.writeBase _ _ _).storeFrom _ _ _ _

theorem State.comesTo.loadHalf (k : LoadKind) (p u w : Bool) (rn rd : Reg) (o : HalfOffset) :
    s.comesToIn (t.loadHalf k p u w rn rd o) := by
  unfold State.loadHalf
  split
  · exact s.comesToIn_refused _
  · exact (h.writeBase _ _ _).loadInto _ _ _ _

theorem State.comesTo.storeHalf (p u w : Bool) (rn rd : Reg) (o : HalfOffset) :
    s.comesToIn (t.storeHalf p u w rn rd o) := by
  unfold State.storeHalf
  split
  · exact s.comesToIn_refused _
  · exact (h.writeBase _ _ _).storeFrom _ _ _ _

theorem State.comesTo.swap (k : LoadKind) (rn rd rm : Reg) : s.comesToIn (t.swap k rn rd rm) := by
  have hr := h.read k.size (t.operand rn) t.privileged true
  unfold State.swap
  split
  · exact s.comesToIn_refused _
  · dsimp only
    split
    · next e => rw [e] at hr; exact hr.next_update rfl
    · next e =>
      rw [e] at hr
      have hw := hr.write k.size (t.operand rn) (t.operand rm) t.privileged true
      split <;> next e' => rw [e'] at hw; exact hw.next_update rfl

/-! ### Several data accesses -/

theorem State.comesTo.storeAll (b : Bool) (a : Word) (vs : List Word) : s.comesTo (t.storeAll b a vs).2 := by
  induction vs generalizing t b a with
  | nil => exact h
  | cons v rest ih => exact ih (h.write .word a v t.privileged false) _ _

theorem State.comesTo.coprocStore (a : Word) (vs : List Word) : s.comesTo (t.coprocStore a vs).2 := by
  induction vs generalizing t a with
  | nil => exact h
  | cons v rest ih =>
    have hw := h.write .word a v t.privileged false
    unfold State.coprocStore
    dsimp only
    split
    · exact hw
    · exact ih hw _

theorem State.comesTo.coprocLoad (got : List Word) (a : Word) (vs : List Word) : s.comesTo (t.coprocLoad got a vs).2.2 := by
  induction vs generalizing t got a with
  | nil => exact h
  | cons v rest ih =>
    have hr := h.read .word a t.privileged false
    unfold State.coprocLoad
    split
    · next e => rw [e] at hr; exact hr
    · next e => rw [e] at hr; exact ih hr _ _

omit h in
theorem State.comesTo.load {q : LoadProgress} (h : s.comesTo q.state) (ub : Bool) (a : Word) (r : Reg) :
    s.comesTo (q.load ub a r).state := by
  have hr := h.read .word a q.state.privileged false
  unfold LoadProgress.load
  split
  · next e => rw [e] at hr; exact hr
  · next e =>
    rw [e] at hr
    split
    · exact hr
    · split
      · exact hr
      · exact hr.update (by cases ub <;> rfl)

omit h in
theorem State.comesTo.loadAll {q : LoadProgress} (h : s.comesTo q.state) (ub : Bool) (a : Word) (rs : List Reg) :
    s.comesTo (q.loadAll ub a rs).state := by
  induction rs generalizing q a with
  | nil => exact h
  | cons r rest ih => exact ih (h.load ub a r) _

theorem State.comesTo.loadMultiple (p u sf w : Bool) (rn : Reg) (list : BitVec 16) :
    s.comesToIn (t.loadMultiple p u sf w rn list) := by
  have hq (f start : Word) (ub : Bool) :
      s.comesTo ((LoadProgress.mk (t.writeBase w rn f) false 0#32).loadAll ub start (regList list)).state :=
    State.comesTo.loadAll (h.writeBase w rn f) ub start (regList list)
  unfold State.loadMultiple
  dsimp only
  split
  · exact s.comesToIn_refused _
  · split
    · exact s.comesToIn_fault _
    · split
      · exact s.comesToIn_fault _
      · split
        · exact (hq _ _ _).next_update rfl
        · split
          · split
            · exact (hq _ _ _).exceptionReturn _
            · exact (hq _ _ _).next_update rfl
          · exact (hq _ _ _).next_update rfl

theorem State.comesTo.storeMultiple (p u sf w : Bool) (rn : Reg) (list : BitVec 16) :
    s.comesToIn (t.storeMultiple p u sf w rn list) := by
  unfold State.storeMultiple
  split
  · exact s.comesToIn_refused _
  · split
    · exact s.comesToIn_fault _
    · dsimp only
      generalize hr : t.storeAll false _ _ = r
      have hs : s.comesTo r.2 := hr ▸ h.storeAll false _ _
      exact (hs.writeBase w rn (blockFinal u (t.operand rn) (listBytes list))).next_ite rfl rfl

/-! ### Coprocessor instructions -/

theorem State.comesTo.offer (cp : BitVec 4) (k : Word → List Word → Result)
    (hk : ∀ (v : Word) (vs : List Word), s.comesToIn (k v vs)) : s.comesToIn (t.offer cp k) := by
  unfold State.offer
  split
  · exact h.next_update rfl
  · split
    · exact h.next_update rfl
    · exact h.next_update rfl
    · exact hk _ _

theorem State.comesTo.receive (rd : Reg) (v : Word) : s.comesToIn (.next (t.receive rd v)) := by
  refine h.next_update ?_
  unfold State.receive
  split <;> rfl

theorem State.comesTo.stc (c : Cond) (p u n w : Bool) (rn : Reg) (crd cp : BitVec 4) (off : BitVec 8) :
    s.comesToIn (execStc c p u n w rn crd cp off t) := by
  refine h.conditional c _ ?_
  split
  · exact s.comesToIn_refused _
  · refine h.offer cp _ fun v vs => ?_
    dsimp only
    generalize hr : State.coprocStore _ _ (v :: vs) = r
    have hs : s.comesTo r.2 := hr ▸ (h.writeBase w rn _).coprocStore _ (v :: vs)
    exact hs.next_ite rfl rfl

theorem State.comesTo.ldc (c : Cond) (p u n w : Bool) (rn : Reg) (crd cp : BitVec 4) (off : BitVec 8) :
    s.comesToIn (execLdc c p u n w rn crd cp off t) := by
  refine h.conditional c _ ?_
  split
  · exact s.comesToIn_refused _
  · refine h.offer cp _ fun v vs => ?_
    dsimp only
    generalize hr : State.coprocLoad _ [] _ (v :: vs) = r
    have hl : s.comesTo r.2.2 := hr ▸ (h.writeBase w rn _).coprocLoad [] _ (v :: vs)
    exact hl.next_ite rfl rfl

theorem State.comesTo.mcr (c : Cond) (opc : BitVec 3) (crn : BitVec 4) (rd : Reg) (cp : BitVec 4) (info : BitVec 3)
    (crm : BitVec 4) : s.comesToIn (execMcr c opc crn rd cp info crm t) := by
  refine h.conditional c _ ?_
  split
  · next ha =>
    have hd : t.pins.dbgen = true := by simp_all [State.commsAccepts]
    exact (h.comms hd (t.operandFar rd) true t.dbg.commsR).next_update rfl
  · exact h.offer cp _ fun _ _ => h.next_update rfl

theorem State.comesTo.mrc (c : Cond) (opc : BitVec 3) (crn : BitVec 4) (rd : Reg) (cp : BitVec 4) (info : BitVec 3)
    (crm : BitVec 4) : s.comesToIn (execMrc c opc crn rd cp info crm t) := by
  refine h.conditional c _ ?_
  split
  · exact h.receive _ _
  · split
    · next ha =>
      have hd : t.pins.dbgen = true := by simp_all [State.commsAccepts]
      exact (h.comms hd t.dbg.commsWrite t.dbg.commsW false).receive rd t.dbg.commsRead
    · exact h.offer cp _ fun v _ => (h.update (u := t.logEvent (.fromCoprocessor cp opc crn info crm v)) rfl).receive rd v

end

/-! ### Every instruction -/

/-- Every instruction is made of such operations. The cases are grouped by the operation that the instructions share. -/
theorem exec_comesTo (i : Instr) (s : State) : s.comesToIn (exec i s) := by
  have h : s.comesTo s := .refl
  unfold exec
  cases i with
  | andImm | andShift | andReg | eorImm | eorShift | eorReg | subImm | subShift | subReg | rsbImm | rsbShift | rsbReg
  | addImm | addShift | addReg | adcImm | adcShift | adcReg | sbcImm | sbcShift | sbcReg | rscImm | rscShift | rscReg
  | orrImm | orrShift | orrReg | movImm | movShift | movReg | bicImm | bicShift | bicReg | mvnImm | mvnShift | mvnReg =>
    exact h.dataOp _ _ _ _ _ _
  | tstImm | tstShift | tstReg | teqImm | teqShift | teqReg | cmpImm | cmpShift | cmpReg | cmnImm | cmnShift | cmnReg =>
    exact h.testOp _ _ _ _ _
  | strImmPre | strImmPost | strtImm | strRegPre | strRegPost | strtReg | strbImmPre | strbImmPost | strbtImm | strbRegPre
  | strbRegPost | strbtReg =>
    exact h.conditional _ _ (h.storeSingle _ _ _ _ _ _ _ _)
  | ldrImmPre | ldrImmPost | ldrtImm | ldrRegPre | ldrRegPost | ldrtReg | ldrbImmPre | ldrbImmPost | ldrbtImm | ldrbRegPre
  | ldrbRegPost | ldrbtReg =>
    exact h.conditional _ _ (h.loadSingle _ _ _ _ _ _ _ _)
  | strhReg | strhImm => exact h.conditional _ _ (h.storeHalf _ _ _ _ _ _)
  | ldrhReg | ldrhImm | ldrsbReg | ldrsbImm | ldrshReg | ldrshImm => exact h.conditional _ _ (h.loadHalf _ _ _ _ _ _ _)
  | stm => exact h.conditional _ _ (h.storeMultiple _ _ _ _ _ _)
  | ldm => exact h.conditional _ _ (h.loadMultiple _ _ _ _ _ _)
  | swp | swpb => exact h.conditional _ _ (h.swap _ _ _ _)
  | mul | mla => exact h.conditional _ _ (h.multiply _ _ _ _ _ _)
  | umull | umlal | smull | smlal => exact h.conditional _ _ (h.multiplyLong _ _ _ _ _ _)
  | mrs =>
    refine h.conditional _ _ ?_
    split
    · exact s.comesToIn_refused _
    · exact h.readPsr _ _
  | msrReg =>
    refine h.conditional _ _ ?_
    split
    · exact s.comesToIn_refused _
    · split
      · exact h.writeSpsr _
      · exact h.writeCpsr _
  | msrFlagsReg =>
    refine h.conditional _ _ ?_
    split
    · exact s.comesToIn_refused _
    · exact h.writeFlags _ _
  | msrFlagsImm => exact h.conditional _ _ (h.writeFlags _ _)
  | bx =>
    refine h.conditional _ _ ?_
    split
    · exact s.comesToIn_refused _
    · exact h.next_update rfl
  | b | bl | swi | undef => exact h.conditional _ _ (h.next_update rfl)
  | cdp => exact h.conditional _ _ (h.offer _ _ fun _ _ => h.next_update rfl)
  | stc => exact h.stc _ _ _ _ _ _ _ _ _
  | ldc => exact h.ldc _ _ _ _ _ _ _ _ _
  | mcr => exact h.mcr _ _ _ _ _ _ _
  | mrc => exact h.mrc _ _ _ _ _ _ _
  | tLslImm | tLsrImm | tAsrImm | tAddReg | tSubReg | tAddImm3 | tSubImm3 | tMovImm | tCmpImm | tAddImm8 | tSubImm8
  | tAnd | tEor | tLslReg | tLsrReg | tAsrReg | tAdc | tSbc | tRorReg | tTst | tNeg | tCmp | tCmn | tOrr | tMul | tBic
  | tMvn | tCmpLoHi | tCmpHiLo | tCmpHiHi | tB | tBlHigh | tBlLow | tSwi | tUndefCond | tUndefB1 | tUndefB2 | tUndefB6
  | tUndefB8 | tUndefBe | tUndefE8 =>
    exact h.next_update rfl
  | tAddLoHi | tAddHiLo | tAddHiHi | tMovLoHi | tMovHiLo | tMovHiHi | tAddPc | tAddSp | tAddSpPos | tAddSpNeg =>
    exact (s.comesToIn_next _).mpr (h.finish _ _)
  | tAddLoLo | tCmpLoLo | tMovLoLo | tBxH1 => exact s.comesToIn_refused _
  | tBxLo | tBxHi => exact h.thumbExchange _
  | tBeq | tBne | tBcs | tBcc | tBmi | tBpl | tBvs | tBvc | tBhi | tBls | tBge | tBlt | tBgt | tBle =>
    exact h.thumbBranchIf _ _
  | tLdrPc | tLdrReg | tLdrbReg | tLdrhReg | tLdsbReg | tLdshReg | tLdrImm | tLdrbImm | tLdrhImm | tLdrSp =>
    exact h.loadInto _ _ _ _
  | tStrReg | tStrbReg | tStrhReg | tStrImm | tStrbImm | tStrhImm | tStrSp => exact h.storeFrom _ _ _ _
  | tPush | tPushLr | tStmia => exact h.storeMultiple _ _ _ _ _ _
  | tPop | tPopPc | tLdmia => exact h.loadMultiple _ _ _ _ _ _

end Sys2Proof.Machine
end

section
/-! What an instruction keeps of the inputs and, with DBGEN LOW, of the debug state (61 R491). -/

namespace Sys2Proof.Machine

/-! ### Data accesses -/

section

variable (s : State) (z : Size) (a v : Word) (p l : Bool)

@[simp] theorem State.dataRead_inp : (s.dataRead z a p l).2.inp = s.inp := by
  unfold State.dataRead
  split
  · rfl
  · split <;> rfl

@[simp] theorem State.dataWrite_inp : (s.dataWrite z a v p l).2.inp = s.inp := by
  unfold State.dataWrite
  split
  · rfl
  · split <;> rfl

/-- Only in isolation is the scan chain read (61 R493). -/
theorem State.dataRead_dbg (h : s.isolated = false) : (s.dataRead z a p l).2.dbg = s.dbg := by
  rw [State.dataRead, if_neg (Bool.eq_false_iff.mp h)]
  split <;> rfl

/-- Only in isolation is the scan chain written (61 R493). -/
theorem State.dataWrite_dbg (h : s.isolated = false) : (s.dataWrite z a v p l).2.dbg = s.dbg := by
  rw [State.dataWrite, if_neg (Bool.eq_false_iff.mp h)]
  split <;> rfl

end

/-! ### Every instruction -/

section

variable {s t : State}

theorem State.comesTo.inp (h : s.comesTo t) : t.inp = s.inp := by
  induction h with
  | refl => rfl
  | update _ hu ih => exact (congrArg State.inp hu).trans ih
  | read _ z a p l ih => exact (State.dataRead_inp _ z a p l).trans ih
  | write _ z a v p l ih => exact (State.dataWrite_inp _ z a v p l).trans ih
  | comms _ _ _ _ _ ih => exact ih

/-- With DBGEN LOW, outside isolation, nothing that an instruction does reaches the debug state. -/
theorem State.comesTo.pins_dbg (h : s.comesTo t) (hd : s.pins.dbgen = false) (hi : s.isolated = false) :
    t.pins = s.pins ∧ t.dbg = s.dbg := by
  have isolated_of {u : State} (hu : u.dbg = s.dbg) : u.isolated = false := by
    rw [State.isolated, hu]
    exact hi
  induction h with
  | refl => exact ⟨rfl, rfl⟩
  | update _ hu ih => exact ⟨(congrArg State.pins hu).trans ih.1, (congrArg State.dbg hu).trans ih.2⟩
  | read _ z a p l ih =>
    exact ⟨(State.dataRead_pins _ z a p l).trans ih.1, (State.dataRead_dbg _ z a p l (isolated_of ih.2)).trans ih.2⟩
  | write _ z a v p l ih =>
    exact ⟨(State.dataWrite_pins _ z a v p l).trans ih.1, (State.dataWrite_dbg _ z a v p l (isolated_of ih.2)).trans ih.2⟩
  | comms _ hc _ _ _ ih => exact absurd hc (by rw [ih.1, hd]; decide)

theorem exec_inp {i : Instr} (h : exec i s = .next t) : t.inp = s.inp :=
  (exec_comesTo i s t h).inp

theorem exec_dbg_off {i : Instr} (h : exec i s = .next t) (hd : s.pins.dbgen = false) (hi : s.isolated = false) :
    t.dbg = s.dbg :=
  ((exec_comesTo i s t h).pins_dbg hd hi).2

end

end Sys2Proof.Machine
end

section
/-! What a step is made of as the debug hardware sees it: memory cycles, an instruction, entry to debug state, and the stopped
core's part (60 R436, 61 R475, R493). -/

namespace Sys2Proof.Machine

/-- The parts of the state that the debug hardware looks at. -/
def State.debugSide (s : State) : Pins × Inputs × Debug := (s.pins, s.inp, s.dbg)

/-- `t` is what `s` comes to by updates of the rest of the machine, instructions, memory cycles that ICEBreaker sees and, with
DBGEN HIGH, writes of the processor's side of the comms channel, entries to debug state and what the stopped core does. -/
inductive State.runsTo (s : State) : State → Prop
  | refl : s.runsTo s
  | update {t u : State} (h : s.runsTo t) (hu : u.debugSide = t.debugSide) : s.runsTo u
  | exec {t u : State} (h : s.runsTo t) (i : Instr) (hu : Machine.exec i t = .next u) : s.runsTo u
  | see {t : State} (h : s.runsTo t) (c : BusCycle) : s.runsTo (t.iceCycle c).2
  | comms {t : State} (h : s.runsTo t) (hd : s.pins.dbgen = true) (v : Word) (w r : Bool) :
    s.runsTo { t with dbg := { t.dbg with commsWrite := v, commsW := w, commsR := r } }
  | enter {t : State} (h : s.runsTo t) (hd : s.pins.dbgen = true) (pc : Word) (watch : Bool) :
    s.runsTo (t.enterDebug pc watch)
  | stopped {t u : State} (h : s.runsTo t) (hd : s.pins.dbgen = true) (hu : t.debugStep = .next u) : s.runsTo u

section

variable {s t : State} (h : s.runsTo t)
include h

/-! ### Memory cycles -/

theorem State.runsTo.cycle (c : BusCycle) : s.runsTo ((t.logCycle c).iceCycle c).2 :=
  (h.update (u := t.logCycle c) rfl).see c

theorem State.runsTo.iceCycles (cs : List BusCycle) : s.runsTo (t.iceCycles cs).2 := by
  induction cs generalizing t with
  | nil => exact h
  | cons c rest ih => exact ih (h.see c)

theorem State.runsTo.fillPipe (n : Nat) : s.runsTo (t.fillPipe n) := by
  induction n with
  | zero => exact h
  | succ n ih =>
    unfold State.fillPipe
    split
    · exact (ih.cycle _).update rfl
    · exact h

theorem State.runsTo.entryFetch : s.runsTo t.entryFetch := by
  unfold State.entryFetch
  split
  · exact (h.update (u := { t with nonSeq := t.breaksSequence }) rfl).fillPipe 3
  · exact h.cycle _

theorem State.runsTo.abortFetch (before : State) : s.runsTo (t.abortFetch before) := by
  unfold State.abortFetch
  split
  · exact h.cycle _
  · exact h

/-! ### Interrupts and the end of an instruction -/

theorem State.runsTo.pendingInterrupt {u : State} {nFIQ nIRQ : Bool} (hu : t.pendingInterrupt nFIQ nIRQ = some u) :
    s.runsTo u := by
  rcases t.pendingInterrupt_cases nFIQ nIRQ with he | ⟨he, -, -⟩ | ⟨he, -, -⟩ <;> cases he.symm.trans hu
  · exact h.update rfl
  · exact h.update rfl

omit h in
/-- With DBGEN LOW no memory cycle reaches the core as a watchpoint (61 R491). -/
theorem State.dbgen_of_iceCycles {cs : List BusCycle} (hw : (t.iceCycles cs).1 = true) : t.pins.dbgen = true := by
  by_contra hd
  rw [State.iceCycles_off cs t (Bool.eq_false_iff.mpr hd)] at hw
  exact Bool.false_ne_true hw

theorem State.runsTo.endInstruction (hp : t.pins = s.pins) (before : State) : s.runsTo (t.endInstruction before) := by
  have hu : s.runsTo (((t.iceCycles t.dataCycles).2.abortFetch before).fillPipe 2) :=
    ((h.iceCycles _).abortFetch before).fillPipe 2
  by_cases hw : (t.iceCycles t.dataCycles).1 = true ∧ legalMode t.cpsr.m = true
  · obtain ⟨hw, hm⟩ := hw
    have hd : s.pins.dbgen = true := hp ▸ State.dbgen_of_iceCycles hw
    rw [State.dataCycles] at hw
    unfold State.endInstruction
    dsimp only
    rw [if_pos (Bool.and_eq_true_iff.mpr ⟨hw, hm⟩)]
    split
    · exact hu.enter hd _ true
    · split
      · next v hv => exact ((hu.entryFetch.pendingInterrupt hv).fillPipe 2).enter hd _ true
      · exact hu.enter hd _ true
  · rw [t.endInstruction_unwatched before (by rwa [← Bool.and_eq_true, Bool.not_eq_true] at hw)]
    exact hu

end

/-! ### The stages of a step -/

section

variable {s t u : State}

theorem State.runsTo.executeNext (h : s.runsTo t) (hp : t.pins = s.pins) (hu : t.executeNext = .next u) :
    s.runsTo u := by
  rcases t.executeNext_next u hu with ⟨i, v, -, hv, rfl⟩ | rfl
  · exact (h.exec i hv).endInstruction ((exec_pins hv).trans hp) t
  · exact h.update rfl

theorem State.runsTo.instructionStep (h : s.runsTo t) (hp : t.pins = s.pins) (hu : t.instructionStep = .next u) :
    s.runsTo u := by
  unfold State.instructionStep at hu
  split at hu
  · cases hu
    exact (h.update (u := t.takePrefetchAbort) rfl).fillPipe 2
  · split at hu
    · next hb =>
      cases hu
      exact h.enter (hp ▸ (Bool.and_eq_true_iff.mp hb).1) _ false
    · exact h.executeNext hp hu

theorem State.runStep_runsTo (hu : s.runStep = .next u) : s.runsTo u := by
  have h : s.runsTo s := .refl
  unfold State.runStep at hu
  split at hu
  · cases hu
    exact h
  · split at hu
    · next hd => exact h.stopped (Bool.and_eq_true_iff.mp hd).1 hu
    · split at hu
      · next hd =>
        cases hu
        exact h.enter (Bool.and_eq_true_iff.mp hd).1 _ _
      · split at hu
        · next v hv =>
          cases hu
          exact (h.entryFetch.pendingInterrupt hv).fillPipe 2
        · exact (h.fillPipe 3).instructionStep (s.fillPipe_pins 3) hu

/-! ### Reset -/

theorem State.abandonWrites_debugSide (cs : List BusCycle) (s : State) :
    (s.abandonWrites cs).debugSide = s.debugSide := by
  induction cs generalizing s with
  | nil => rfl
  | cons c rest ih => exact ih _

/-- An abandoned instruction leaves free values of the comms channel only where it could write it (61 R499, log 46). -/
theorem State.abandonComms_cases (s : State) : s.abandonComms = s.dbg ∨ (s.pins.dbgen = true ∧
    ∃ (v : Word) (w r : Bool), s.abandonComms = { s.dbg with commsWrite := v, commsW := w, commsR := r }) := by
  have hd {c : Cond} {cp crm crn : BitVec 4} {opc info : BitVec 3}
      (h : (condPassed c s.cpsr && s.commsAccepts cp opc info crm && decide (crn = 1#4)) = true) :
      s.pins.dbgen = true := by
    simp only [State.commsAccepts, Bool.and_eq_true] at h
    tauto
  unfold State.abandonComms
  split
  · split
    · next h => exact .inr ⟨hd h, _, _, s.dbg.commsR, rfl⟩
    · exact .inl rfl
  · split
    · next h => exact .inr ⟨hd h, s.dbg.commsWrite, s.dbg.commsW, _, rfl⟩
    · exact .inl rfl
  · exact .inl rfl

theorem State.abandon_runsTo (s : State) : s.runsTo s.abandon := by
  have hc : s.runsTo { s with dbg := s.abandonComms } := by
    rcases s.abandonComms_cases with h | ⟨hd, v, w, r, h⟩
    · rw [h]
      exact .refl
    · rw [h]
      exact .comms .refl hd v w r
  unfold State.abandon
  split
  · exact hc.update (congrArg (fun d => (d.1, d.2.1, s.abandonComms)) (State.abandonWrites_debugSide _ s))
  · exact .refl

theorem State.holdReset_runsTo (s : State) : s.runsTo s.holdReset := by
  have h : s.runsTo (if s.resetCycles = 0 then s.abandon else s) := by
    split
    · exact s.abandon_runsTo
    · exact .refl
  exact (h.cycle _).update rfl

theorem State.resetEntry_debugSide (s : State) : s.resetEntry.debugSide = s.debugSide := by
  unfold State.debugSide State.resetEntry
  rfl

/-- A step that goes on runs from the state that the inputs and the TAP leave. -/
theorem step_runsTo (hu : step s = .next u) : ∃ t : State, s.beginStep.tapStep = some t ∧ t.runsTo u := by
  change s.cycle = .next u at hu
  unfold State.cycle at hu
  split at hu
  · exact absurd hu (by simp)
  · next t ht =>
    refine ⟨t, ht, ?_⟩
    split at hu
    · split at hu
      · exact absurd hu (by simp)
      · rw [← Host.Outcome.next.inj hu]
        exact t.holdReset_runsTo
    · split at hu
      · exact State.runStep_runsTo hu
      · split at hu
        · exact absurd hu (by simp)
        · rw [← Host.Outcome.next.inj hu]
          exact State.runsTo.refl.update t.resetEntry_debugSide

end

end Sys2Proof.Machine
end

section
/-! O59: a step with DBGEN LOW (61 R470, R491). -/

namespace Sys2Proof.Machine

/-- With DBGEN LOW, out of debug state, nothing in a step reaches the debug state. -/
theorem State.runsTo.pins_dbg {s t : State} (h : s.runsTo t) (hd : s.pins.dbgen = false) (ha : s.dbg.active = false) :
    t.pins = s.pins ∧ t.dbg = s.dbg := by
  induction h with
  | refl => exact ⟨rfl, rfl⟩
  | update _ hu ih =>
    exact ⟨(congrArg (fun d => d.1) hu).trans ih.1, (congrArg (fun d => d.2.2) hu).trans ih.2⟩
  | @exec t _ _ i hu ih =>
    have hi : t.isolated = false := by rw [State.isolated, ih.2, ha, Bool.false_and]
    exact ⟨(exec_pins hu).trans ih.1, (exec_dbg_off hu (ih.1 ▸ hd) hi).trans ih.2⟩
  | see _ c ih => rwa [State.iceCycle_off _ c (ih.1 ▸ hd)]
  | comms _ hg | enter _ hg | stopped _ hg => exact absurd hg (by rw [hd]; decide)

/-- Settles O59: the TAP does nothing, and nothing in the rest of the step reaches the debug state. -/
theorem debugDisabled : Obligations.DebugDisabled := by
  unfold Obligations.DebugDisabled
  intro s t hd ha ht
  obtain ⟨u, hu, hrun⟩ := step_runsTo ht
  cases hu.symm.trans (s.beginStep.tapStep_off hd)
  obtain ⟨hp, hg⟩ := hrun.pins_dbg hd ha
  exact ⟨hp ▸ hd, hg⟩

end Sys2Proof.Machine
end

section
/-! The ICEBreaker registers (61 R480): what the debugger reads after a write, and what a write leaves alone. -/

namespace Sys2Proof.Machine

/-! ### Registers narrower than a word -/

/-- A register of `n` bits shows the low `n` bits of what was written to it. -/
theorem setWidth_extractLsb'_low (v : Word) (n : Nat) (h : n ≤ 32) :
    (v.extractLsb' 0 n).setWidth 32 = v &&& BitVec.ofNat 32 (2 ^ n - 1) := by
  have hn : 2 ^ n ≤ 2 ^ 32 := Nat.pow_le_pow_right (by decide) h
  have hp : 0 < 2 ^ n := Nat.two_pow_pos n
  have hm : v.toNat % 2 ^ n < 2 ^ n := Nat.mod_lt _ hp
  apply BitVec.eq_of_toNat_eq
  rw [BitVec.toNat_and, BitVec.toNat_ofNat, Nat.mod_eq_of_lt (by omega : 2 ^ n - 1 < 2 ^ 32),
    Nat.and_two_pow_sub_one_eq_mod, BitVec.toNat_setWidth, BitVec.extractLsb'_toNat, Nat.shiftRight_zero,
    Nat.mod_eq_of_lt (by omega)]

theorem ofBool_append_low (v : Word) :
    BitVec.ofBool (v.getLsbD 2) ++ (BitVec.ofBool (v.getLsbD 1) ++ BitVec.ofBool (v.getLsbD 0)) = v.extractLsb' 0 3 := by
  apply BitVec.eq_of_getLsbD_eq
  grind

/-! ### One watchpoint unit -/

/-- A watchpoint register as it is read, by the low three bits of its address (61 R480). -/
def Watchpoint.field (w : Watchpoint) (k : BitVec 3) : Word :=
  match k.toNat with
  | 0 => w.addrValue
  | 1 => w.addrMask
  | 2 => w.dataValue
  | 3 => w.dataMask
  | 4 => w.ctrlValue.setWidth 32
  | _ => w.ctrlMask.setWidth 32

section

variable (w : Watchpoint) (v : Word)

theorem Watchpoint.field_write_word {k : BitVec 3} (hk : k ∈ [0#3, 1#3, 2#3, 3#3]) : (w.write k v).field k = v := by
  fin_cases hk <;> rfl

theorem Watchpoint.field_write_ctrlValue : (w.write 4#3 v).field 4#3 = v &&& 0x1FF#32 :=
  setWidth_extractLsb'_low v 9 (by decide)

theorem Watchpoint.field_write_ctrlMask : (w.write 5#3 v).field 5#3 = v &&& 0xFF#32 :=
  setWidth_extractLsb'_low v 8 (by decide)

theorem Watchpoint.field_write_ne {k k' : BitVec 3} (h : k ≠ k') (hk : k' ≤ 5#3) : (w.write k v).field k' = w.field k' := by
  have hn : k.toNat ≠ k'.toNat := fun e => h (BitVec.eq_of_toNat_eq e)
  have h5 : k'.toNat ≤ 5 := hk
  unfold Watchpoint.write
  split <;> unfold Watchpoint.field <;> generalize k'.toNat = j at hn h5 <;> interval_cases j <;>
    first | rfl | contradiction

end

/-! ### Both units -/

/-- The unit that the upper two bits of an address select: 01 for unit 0, 10 for unit 1 (61 R480). -/
def Debug.unit (g : Debug) (b : BitVec 2) : Watchpoint := if b = 0b01#2 then g.wp0 else g.wp1

/-- The addresses of the watchpoint registers (61 R480). -/
def watchpointAddrs : List (BitVec 5) :=
  [8#5, 9#5, 10#5, 11#5, 12#5, 13#5, 16#5, 17#5, 18#5, 19#5, 20#5, 21#5]

theorem watchpointAddrs_fields {a : BitVec 5} (h : a ∈ watchpointAddrs) :
    (a.extractLsb' 3 2 = 0b01#2 ∨ a.extractLsb' 3 2 = 0b10#2) ∧ a.extractLsb' 0 3 ≤ 5#3 := by
  revert a
  decide

theorem State.iceRegister_watchpoint (s : State) {a : BitVec 5} (h : a ∈ watchpointAddrs) :
    s.iceRegister a = (s.dbg.unit (a.extractLsb' 3 2)).field (a.extractLsb' 0 3) := by
  unfold watchpointAddrs at h
  fin_cases h <;> rfl

/-- A write reaches the unit that its address selects, and no other. -/
theorem Debug.unit_iceWrite (g : Debug) (a : BitVec 5) (v : Word) {b : BitVec 2} (hb : b = 0b01#2 ∨ b = 0b10#2) :
    (g.iceWrite a v).unit b =
      if a.extractLsb' 3 2 = b then (g.unit b).write (a.extractLsb' 0 3) v else g.unit b := by
  unfold Debug.iceWrite
  split
  · next ha => subst ha; rcases hb with rfl | rfl <;> rfl
  · split
    · next ha => subst ha; rcases hb with rfl | rfl <;> rfl
    · split
      · next ha => rw [ha]; rcases hb with rfl | rfl <;> rfl
      · split
        · next ha => rw [ha]; rcases hb with rfl | rfl <;> rfl
        · next h1 h2 =>
          rw [if_neg]
          rcases hb with rfl | rfl
          · exact h1
          · exact h2

theorem addr_ext {a a' : BitVec 5} (hb : a.extractLsb' 3 2 = a'.extractLsb' 3 2)
    (hk : a.extractLsb' 0 3 = a'.extractLsb' 0 3) : a = a' := by
  have parts (x : BitVec 5) : x.extractLsb' 3 2 ++ x.extractLsb' 0 3 = x := by
    grind
  rw [← parts a, hb, hk, parts a']

/-- A write leaves the watchpoint registers at all other addresses as they were. -/
theorem State.iceRegister_iceWrite_ne (s : State) {a a' : BitVec 5} (v : Word) (h : a ≠ a') (ha : a' ∈ watchpointAddrs) :
    ({ s with dbg := s.dbg.iceWrite a v } : State).iceRegister a' = s.iceRegister a' := by
  obtain ⟨hb, hk⟩ := watchpointAddrs_fields ha
  rw [State.iceRegister_watchpoint _ ha, s.iceRegister_watchpoint ha, Debug.unit_iceWrite _ a v hb]
  split
  · next he => exact Watchpoint.field_write_ne _ v (fun hk => h (addr_ext he hk)) hk
  · rfl

/-- A watchpoint register reads back as its unit does. -/
theorem State.iceRegister_iceWrite_self (s : State) {a : BitVec 5} (v : Word) (ha : a ∈ watchpointAddrs) :
    ({ s with dbg := s.dbg.iceWrite a v } : State).iceRegister a =
      ((s.dbg.unit (a.extractLsb' 3 2)).write (a.extractLsb' 0 3) v).field (a.extractLsb' 0 3) := by
  obtain ⟨hb, hk⟩ := watchpointAddrs_fields ha
  rw [State.iceRegister_watchpoint _ ha, Debug.unit_iceWrite _ a v hb, if_pos rfl]

/-- What the debugger reads after a write of a watchpoint register, in the register's own width (61 R479, R480). -/
theorem State.iceRegister_iceWrite_widths (s : State) (v : Word) :
    (∀ a ∈ [8#5, 9#5, 10#5, 11#5, 16#5, 17#5, 18#5, 19#5], ({ s with dbg := s.dbg.iceWrite a v } : State).iceRegister a = v) ∧
      (∀ a ∈ [12#5, 20#5], ({ s with dbg := s.dbg.iceWrite a v } : State).iceRegister a = v &&& 0x1FF#32) ∧
      (∀ a ∈ [13#5, 21#5], ({ s with dbg := s.dbg.iceWrite a v } : State).iceRegister a = v &&& 0xFF#32) := by
  refine ⟨fun a ha => ?_, fun a ha => ?_, fun a ha => ?_⟩
  · have hk : a ∈ watchpointAddrs ∧ a.extractLsb' 0 3 ∈ [0#3, 1#3, 2#3, 3#3] := by
      revert a
      decide
    rw [s.iceRegister_iceWrite_self v hk.1, Watchpoint.field_write_word _ v hk.2]
  · have hk : a ∈ watchpointAddrs ∧ a.extractLsb' 0 3 = 4#3 := by
      revert a
      decide
    rw [s.iceRegister_iceWrite_self v hk.1, hk.2, Watchpoint.field_write_ctrlValue]
  · have hk : a ∈ watchpointAddrs ∧ a.extractLsb' 0 3 = 5#3 := by
      revert a
      decide
    rw [s.iceRegister_iceWrite_self v hk.1, hk.2, Watchpoint.field_write_ctrlMask]

/-- Debug control reads back its three bits (61 R488). -/
theorem State.iceRegister_iceWrite_control (s : State) (v : Word) :
    ({ s with dbg := s.dbg.iceWrite 0#5 v } : State).iceRegister 0#5 = v &&& 7#32 := by
  show (BitVec.ofBool (v.getLsbD 2) ++ (BitVec.ofBool (v.getLsbD 1) ++ BitVec.ofBool (v.getLsbD 0))).setWidth 32 = _
  rw [ofBool_append_low]
  exact setWidth_extractLsb'_low v 3 (by decide)

/-- The external DBGACK after a write of debug control (61 R488, R491). -/
theorem State.dbgackPin_iceWrite_control (s : State) (v : Word) :
    ({ s with dbg := s.dbg.iceWrite 0#5 v } : State).dbgackPin = true ↔
      s.pins.dbgen = true ∧ ((s.dbg.active = true ∧ s.dbg.systemSpeed = false) ∨ v.getLsbD 0 = true) := by
  simp only [State.dbgackPin, State.isolated, Debug.iceWrite, if_pos, Bool.and_eq_true, Bool.or_eq_true,
    Bool.not_eq_true']

end Sys2Proof.Machine
end

section
/-! The TAP (61 R479, R488, R489, R502, R503): its commands with nTRST HIGH, and a step with nTRST LOW. -/

namespace Sys2Proof.Machine

/-! ### Debug status -/

/-- The bits of debug status, from bit 4 down (61 R489). -/
theorem State.debugStatus_bits (s : State) : s.debugStatus.getLsbD 4 = s.cpsr.t ∧
    s.debugStatus.getLsbD 3 = (s.dbg.active || Config.runningNMreq s.freeCtr) ∧ s.debugStatus.getLsbD 2 = s.ifen ∧
    s.debugStatus.getLsbD 1 = s.debugRequest ∧ s.debugStatus.getLsbD 0 = s.dbg.active := by
  rw [State.debugStatus]
  grind

theorem State.ifen_iff (s : State) (hd : s.pins.dbgen = true) :
    s.ifen = true ↔ s.dbg.active = false ∧ s.dbg.intdis = false := by
  simp [State.ifen, hd]

theorem State.debugRequest_iff (s : State) :
    s.debugRequest = true ↔ s.inp.dbgrq = true ∨ s.dbg.dbgrqLatch = true :=
  Bool.or_eq_true _ _ ▸ Iff.rfl

/-- Debug status as the debugger reads it: five bits in the order of 61 R489. -/
theorem State.iceRegister_status (s : State) (hd : s.pins.dbgen = true) :
    (s.iceRegister 1#5).extractLsb' 5 27 = 0#27 ∧ (s.iceRegister 1#5).getLsbD 4 = s.cpsr.t ∧
      (s.dbg.active = true → (s.iceRegister 1#5).getLsbD 3 = true) ∧
      ((s.iceRegister 1#5).getLsbD 2 = true ↔ s.dbg.active = false ∧ s.dbg.intdis = false) ∧
      ((s.iceRegister 1#5).getLsbD 1 = true ↔ s.inp.dbgrq = true ∨ s.dbg.dbgrqLatch = true) ∧
      (s.iceRegister 1#5).getLsbD 0 = s.dbg.active := by
  have hbit (k : Nat) (hk : k < 32) : (s.iceRegister 1#5).getLsbD k = s.debugStatus.getLsbD k := by
    show (s.debugStatus.setWidth 32).getLsbD k = _
    rw [BitVec.getLsbD_setWidth, decide_eq_true hk, Bool.true_and]
  obtain ⟨htbit, hnmreq, hifen, hrequest, hactive⟩ := s.debugStatus_bits
  refine ⟨?_, (hbit 4 (by decide)).trans htbit, fun ha => ?_, ?_, ?_, (hbit 0 (by decide)).trans hactive⟩
  · apply BitVec.eq_of_getLsbD_eq
    intro k hk
    rw [BitVec.getLsbD_extractLsb', hbit _ (by omega), BitVec.getLsbD_of_ge _ _ (by omega), Bool.and_false,
      BitVec.getLsbD_zero]
  · rw [hbit 3 (by decide), hnmreq, ha, Bool.true_or]
  · rw [hbit 2 (by decide), hifen]
    exact s.ifen_iff hd
  · rw [hbit 1 (by decide), hrequest]
    exact s.debugRequest_iff

/-- Reading a register other than comms data changes nothing (61 R500). -/
theorem State.iceRead_of_ne (s : State) {a : BitVec 5} (h : a ≠ 5#5) :
    s.iceRead a = { s with dbg := { s.dbg with iceOut := some (s.iceRegister a) } } := by
  simp [State.iceRead, h]

/-! ### Commands -/

section

variable (s : State)

theorem State.tapCommand_iceRead (a : BitVec 5) (hs : s.dbg.scanSelect = 2#4) (hir : s.dbg.tapIr = 0b1100#4) :
    s.tapCommand (.iceRead a) = some (s.iceRead a) :=
  if_pos (by rw [hs, hir]; decide)

theorem State.tapCommand_iceWrite (a : BitVec 5) (v : Word) (hs : s.dbg.scanSelect = 2#4)
    (hir : s.dbg.tapIr = 0b1100#4) : s.tapCommand (.iceWrite a v) = some { s with dbg := s.dbg.iceWrite a v } :=
  if_pos (by rw [hs, hir]; decide)

theorem State.tapCommand_selectChain (n : BitVec 4) (hir : s.dbg.tapIr = 0b0010#4) :
    (n.toNat < 4 → s.tapCommand (.selectChain n) =
      some { s with dbg := { s.dbg with scanSelect := n, tapOut := some 0b1000#32 } }) ∧
      (4 ≤ n.toNat → s.tapCommand (.selectChain n) = none) :=
  ⟨fun hn => if_pos (by simp [hir, tapScanN, hn]), fun hn => if_neg (by simp; omega)⟩

/-- IDCODE shifts out the identification, whose bit 0 is set (61 R502). -/
theorem deviceId_bit0 : deviceId.getLsbD 0 = true := by
  rw [deviceId]
  grind

theorem State.tapCommand_scanDr_idcode (last : Bool) (hir : s.dbg.tapIr = 0b1110#4) :
    s.tapCommand (.scanDr last) = some { s with dbg := { s.dbg with tapOut := some deviceId } } :=
  if_pos hir

/-- BYPASS, RESTART and the codes that are not used select the bypass register (61 R502). -/
theorem State.tapCommand_scanDr_bypass (last : Bool) (hir : s.dbg.tapIr ∈
      [0b1111#4, 0b0100#4, 0b0001#4, 0b0110#4, 0b1000#4, 0b1010#4, 0b1011#4, 0b1101#4]) :
    s.tapCommand (.scanDr last) = some { s with dbg := { s.dbg with bypass := last, tapOut := some 0#32 } } := by
  have hb : ∀ ir ∈ [0b1111#4, 0b0100#4, 0b0001#4, 0b0110#4, 0b1000#4, 0b1010#4, 0b1011#4, 0b1101#4],
      ir ≠ tapIdcode ∧ (tapIsBypass ir || decide (ir = tapRestart)) = true := by
    decide
  obtain ⟨hi, hb⟩ := hb _ hir
  exact (if_neg hi).trans (if_pos hb)

end

/-! ### A step with nTRST LOW -/

/-- The TAP held in reset: what no part of a step changes while nTRST is LOW (61 R484, R502, R503). -/
structure State.tapHeld (s : State) (bypass : Bool) : Prop where
  nTRST : s.inp.nTRST = false
  tapIr : s.dbg.tapIr = 0b1110#4
  scanSelect : s.dbg.scanSelect = 3#4
  chainOut : s.dbg.chainOut = false
  bypass : s.dbg.bypass = bypass

section

variable {s t : State} {b : Bool}

theorem State.tapHeld.of_core (h : s.tapHeld b) (hi : t.inp = s.inp) (hg : t.dbg.core = s.dbg.core) : t.tapHeld b where
  nTRST := hi ▸ h.nTRST
  tapIr := (show t.dbg.core.tapIr = s.dbg.core.tapIr from congrArg _ hg).trans h.tapIr
  scanSelect := (show t.dbg.core.scanSelect = s.dbg.core.scanSelect from congrArg _ hg).trans h.scanSelect
  chainOut := (show t.dbg.core.chainOut = s.dbg.core.chainOut from congrArg _ hg).trans h.chainOut
  bypass := (show t.dbg.core.bypass = s.dbg.core.bypass from congrArg _ hg).trans h.bypass

/-- CHAINOUT stays clear in the memory cycles of the step (61 R484). -/
theorem State.tapHeld.iceCycle (h : s.tapHeld b) (c : BusCycle) : (s.iceCycle c).2.tapHeld b := by
  cases hd : s.pins.dbgen with
  | false =>
    rw [State.iceCycle_off s c hd]
    exact h
  | true =>
    rw [s.iceCycle_on c hd, h.nTRST, Bool.false_and]
    exact ⟨h.nTRST, h.tapIr, h.scanSelect, rfl, h.bypass⟩

theorem State.runsTo.tapHeld (h : s.runsTo t) (hs : s.tapHeld b) : t.tapHeld b := by
  induction h with
  | refl => exact hs
  | update _ hu ih =>
    exact ih.of_core (congrArg (fun d => d.2.1) hu) (congrArg (fun d => d.2.2.core) hu)
  | @exec t u _ i hu ih => exact ih.of_core (exec_inp hu) (exec_keepsDebug i t u hu).core
  | see _ c ih => exact ih.iceCycle c
  | comms _ _ _ _ _ ih => exact ih.of_core rfl rfl
  | enter _ _ _ _ ih => exact ⟨ih.nTRST, ih.tapIr, ih.scanSelect, ih.chainOut, ih.bypass⟩
  | @stopped t u _ _ hu ih =>
    have hidle : t.debugCommand = .idle := if_neg (by simp [ih.nTRST])
    rw [State.debugStep, hidle] at hu
    cases hu
    exact ih

end

/-! ### A step out of reset -/

/-- Out of reset a step is what the TAP leaves and then steps 2 to 10 of 60 R436; a command out of its protocol is refused. -/
theorem step_of_nRESET {s : State} (hn : (s.env.headD Inputs.inactive).nRESET = true) (hc : s.resetCycles = 0) :
    (∀ u : State, s.beginStep.tapStep = some u → step s = u.runStep) ∧
      (s.beginStep.tapStep = none → step s = .refused .debugProtocol) := by
  have hstep : step s = s.cycle := rfl
  rw [hstep, State.cycle]
  constructor
  · intro u hu
    obtain ⟨g, rfl⟩ := State.tapStep_state _ _ hu
    rw [hu]
    dsimp only
    rw [if_neg (by rw [State.beginStep_inp, hn]; decide), if_pos (by exact hc)]
  · intro hu
    rw [hu]

/-- Settles O60, clause by clause: ICEBreaker's registers, the commands of the TAP, nTRST LOW, and the step around them. -/
theorem debugRegisters : Obligations.DebugRegisters := by
  unfold Obligations.DebugRegisters
  refine ⟨fun s v => ?_, fun s hd ht => ?_, fun s hd ht => ?_, fun s t hd ht hu => ?_, fun s hn hc => step_of_nRESET hn hc⟩
  · obtain ⟨hword, hctrl, hmask⟩ := s.iceRegister_iceWrite_widths v
    exact ⟨hword, hctrl, hmask, s.iceRegister_iceWrite_control v,
      fun _ _ hne ha => s.iceRegister_iceWrite_ne v hne ha, s.dbgackPin_iceWrite_control v⟩
  · intro now
    have htap : s.tapStep = s.tapCommand s.inp.dbg := s.tapStep_eq_tapCommand hd ht
    refine ⟨fun hs hir => ⟨fun hcmd => ?_, fun a hcmd => ?_, fun a v hcmd => ?_⟩, fun ir hcmd => ?_,
      fun n hcmd hir => ?_, fun last hcmd => ⟨fun hir => ?_, fun hir => ?_⟩, fun hcmd => ?_⟩ <;>
      rw [hcmd] at htap
    · exact ⟨s.iceRegister 1#5, htap.trans ((s.tapCommand_iceRead _ hs hir).trans
        (congrArg some (s.iceRead_of_ne (by decide)))), s.iceRegister_status hd⟩
    · exact htap.trans (s.tapCommand_iceRead a hs hir)
    · exact htap.trans (s.tapCommand_iceWrite a v hs hir)
    · exact ⟨_, htap⟩
    · obtain ⟨hlow, hhigh⟩ := s.tapCommand_selectChain n hir
      exact ⟨fun h => htap.trans (hlow h), fun h => htap.trans (hhigh h)⟩
    · exact ⟨deviceId, deviceId_bit0, htap.trans (s.tapCommand_scanDr_idcode last hir)⟩
    · exact htap.trans (s.tapCommand_scanDr_bypass last hir)
    · exact htap
  · exact ⟨_, s.tapStep_reset hd ht, rfl, rfl, rfl, rfl, rfl, rfl, rfl, rfl, rfl, rfl, rfl⟩
  · obtain ⟨u, hu, hrun⟩ := step_runsTo hu
    cases hu.symm.trans (s.beginStep.tapStep_reset hd ht)
    have h := hrun.tapHeld (b := s.dbg.bypass) ⟨ht, rfl, rfl, rfl, rfl⟩
    exact ⟨h.tapIr, h.scanSelect, h.chainOut, h.bypass⟩

end Sys2Proof.Machine
end

section
/-! O17: the exceptions between instructions (60 R433, R436, R446, R450, R451; 61 R490; 70 R546). -/

namespace Sys2Proof.Machine

/-! ### The interrupt that is taken -/

section

variable {s : State} {nFIQ nIRQ : Bool}

/-- FIQ is tested first (60 R433). -/
theorem State.pendingInterrupt_fiq (he : s.ifen = true) (hf : s.cpsr.f = false) (hn : nFIQ = false) :
    s.pendingInterrupt nFIQ nIRQ = some s.takeFiq :=
  if_pos (by simp [he, hf, hn])

theorem State.pendingInterrupt_irq (he : s.ifen = true) (hf : s.cpsr.f = true ∨ nFIQ = true) (hi : s.cpsr.i = false)
    (hn : nIRQ = false) : s.pendingInterrupt nFIQ nIRQ = some s.takeIrq := by
  have hfiq : (!s.cpsr.f && !nFIQ && s.ifen) = false := by
    rcases hf with hf | hf <;> simp [hf]
  rw [State.pendingInterrupt, if_neg (by simp [hfiq]), if_pos (by simp [he, hi, hn])]

end

theorem State.ifen_eq_true_iff (s : State) :
    s.ifen = true ↔ s.pins.dbgen = false ∨ (s.dbg.active = false ∧ s.dbg.intdis = false) := by
  simp [State.ifen]

/-! ### The state in which an exception is taken -/

/-- `r` is what the step that begins in `s` has come to when it takes an exception: the core as before and memory as the other
bus masters leave it, after so many fetches, of which the last is that of the instruction two past the PC (70 R546). -/
structure State.fetchesAhead (s r : State) (fetches : Nat) : Prop where
  regs : r.regs = s.regs
  pc : r.pc = s.pc
  cpsr : r.cpsr = s.cpsr
  spsrs : r.spsrs = s.spsrs
  mem : r.mem = s.beginStep.mem
  count : r.bus.length = fetches
  last : ∀ c : BusCycle, r.bus.getLast? = some c → s.beginStep.fetches c 2

/-- The step that begins in `s` takes the exception after so many fetches, with the link 4 past the PC, and refills the
pipeline from the vector. -/
def State.takes (s : State) (e : Exc) (fetches : Nat) : Prop :=
  ∃ r : State, step s = .next ((r.enterException e (s.pc + 4#32)).fillPipe 2) ∧
    r.regs = s.regs ∧ r.cpsr = s.cpsr ∧ r.spsrs = s.spsrs ∧ r.mem = s.beginStep.mem ∧
    r.bus.length = fetches ∧ (∀ c : BusCycle, r.bus.getLast? = some c → s.beginStep.fetches c 2)

theorem State.fetchesAhead.takes {s r : State} {e : Exc} {n : Nat} (h : s.fetchesAhead r n)
    (hs : step s = .next ((r.enterException e (r.pc + 4#32)).fillPipe 2)) : s.takes e n :=
  ⟨r, h.pc ▸ hs, h.regs, h.cpsr, h.spsrs, h.mem, h.count, h.last⟩

section

variable (s : State)

/-- An interrupt's entry makes the fetch two past the PC even where the queue is full (log 77). -/
theorem State.fetchesAhead_entryFetch : s.fetchesAhead s.beginStep.entryFetch (max 1 (3 - s.pipe.length)) := by
  obtain ⟨x, y, z, e, q, cs, c, h, hl, hc⟩ := s.beginStep.entryFetch_state
  rw [h]
  refine ⟨rfl, rfl, rfl, rfl, rfl, hl, fun d hd => ?_⟩
  have hdc : c = d := by simpa using hd
  exact hdc ▸ hc

/-- A prefetch abort is taken on the queue as the step has filled it. -/
theorem State.fetchesAhead_fillPipe : s.fetchesAhead (s.beginStep.fillPipe 3) (3 - s.pipe.length) where
  regs := s.beginStep.fillPipe_regs 3
  pc := s.beginStep.fillPipe_pc 3
  cpsr := s.beginStep.fillPipe_cpsr 3
  spsrs := s.beginStep.fillPipe_spsrs 3
  mem := s.beginStep.fillPipe_mem 3
  count := (s.fillPipe_beginStep_bus 3).1
  last c hc := by
    have hcount := (s.fillPipe_beginStep_bus 3).1
    rw [List.getLast?_eq_getElem?, hcount] at hc
    have hbound := (List.getElem?_eq_some_iff.mp hc).1
    have hplace : s.beginStep.fetches c (s.pipe.length + (3 - s.pipe.length - 1)) :=
      s.beginStep.fetches_of_fillPipe_bus (n := 3) (by simpa using hc)
    rwa [show s.pipe.length + (3 - s.pipe.length - 1) = 2 by omega] at hplace

end

/-! ### The step -/

section

variable {s : State} (hr : s.running)
include hr

/-- Where IFEN is 1 at the start of the step it is so at the interrupt tests: the fetch before them does not change it. -/
theorem State.running.ifen_entryFetch (he : s.pins.dbgen = false ∨ s.dbg.intdis = false) :
    s.beginStep.entryFetch.ifen = true := by
  obtain ⟨-, -, -, -, hd⟩ := hr
  obtain ⟨x, y, z, e, q, cs, c, h, -, -⟩ := s.beginStep.entryFetch_state
  rw [State.ifen_eq_true_iff, h]
  cases hg : s.pins.dbgen with
  | false => exact .inl hg
  | true => exact .inr ⟨(hd hg).1, he.resolve_left (by simp [hg])⟩

theorem State.running.tapStep : s.beginStep.tapStep = some s.beginStep := by
  obtain ⟨-, -, -, ht, -⟩ := hr
  cases hg : s.pins.dbgen with
  | false => exact State.tapStep_off s.beginStep hg
  | true => exact State.tapStep_idle s.beginStep (ht hg).1 (ht hg).2

/-- The step of a running core that takes an interrupt (60 R436, steps 5 and 6). -/
theorem step_of_interrupt {t : State}
    (h : s.beginStep.entryFetch.pendingInterrupt s.beginStep.inp.nFIQ s.beginStep.inp.nIRQ = some t) :
    step s = .next (t.fillPipe 2) := by
  have htap := State.running.tapStep hr
  obtain ⟨hm, hc, hn, -, hd⟩ := hr
  have hactive : (s.beginStep.pins.dbgen && s.beginStep.dbg.active) = false :=
    Bool.and_eq_false_imp.mpr fun hg => (hd hg).1
  have hrequest : (s.beginStep.pins.dbgen && s.beginStep.debugRequest) = false :=
    Bool.and_eq_false_imp.mpr fun hg => Bool.or_eq_false_iff.mpr ⟨(hd hg).2.2, (hd hg).2.1⟩
  rw [(step_of_nRESET hn hc).1 _ htap, State.runStep, if_neg (by simp [hm]), if_neg (Bool.eq_false_iff.mp hactive),
    if_neg (Bool.eq_false_iff.mp hrequest), h]

/-- The prefetch-abort mark of the instruction at the PC is tested where no interrupt is taken (60 R436, step 7). -/
theorem step_of_prefetchAbort (hq : s.quiet) (ha : (s.beginStep.slot 0).aborted = true) :
    step s = .next ((s.beginStep.fillPipe 3).takePrefetchAbort.fillPipe 2) := by
  obtain ⟨q, hget, -, hmark, -⟩ := s.beginStep.fillPipe_get_slot 3 0 (by decide)
  have hhead : (s.beginStep.fillPipe 3).head.aborted = true := by
    rw [State.head_of_get _ hget, hmark, ha]
  rw [step_of_running_quiet s hr hq, State.instructionStep, if_pos hhead]

end

/-- Settles O17: IFEN, and for each exception the fetches of its entry and the step that takes it. -/
theorem exceptionsBetweenInstructions : Obligations.ExceptionsBetweenInstructions := by
  unfold Obligations.ExceptionsBetweenInstructions
  refine ⟨State.ifen_eq_true_iff, fun s => ?_⟩
  intro inp b takes hr
  have hcpsr : b.entryFetch.cpsr = s.cpsr := s.fetchesAhead_entryFetch.cpsr
  refine ⟨fun he hf hn => ?fiq, fun he hf hi hn => ?irq, fun hq ha => ?prefetchAbort⟩
  case fiq =>
    have hp : b.entryFetch.pendingInterrupt inp.nFIQ inp.nIRQ = some b.entryFetch.takeFiq :=
      State.pendingInterrupt_fiq (hr.ifen_entryFetch he) (hcpsr ▸ hf) hn
    exact s.fetchesAhead_entryFetch.takes (step_of_interrupt hr hp)
  case irq =>
    have hp : b.entryFetch.pendingInterrupt inp.nFIQ inp.nIRQ = some b.entryFetch.takeIrq :=
      State.pendingInterrupt_irq (hr.ifen_entryFetch he) (hcpsr ▸ hf) (hcpsr ▸ hi) hn
    exact s.fetchesAhead_entryFetch.takes (step_of_interrupt hr hp)
  case prefetchAbort =>
    exact s.fetchesAhead_fillPipe.takes (step_of_prefetchAbort hr hq ha)

end Sys2Proof.Machine
end

section
/-! The encoding tables read as fields: an encoding of each shape holds exactly of the words whose fields are its operands
(30 R103, R121, and the encoding tables of 40 to 49). -/

namespace Sys2Proof

-- Elaborated one after the other: side by side, the threads of one large text pass the memory of the check.
set_option Elab.async false

/-! ### Fields -/

section

variable {k m n s : Nat} {w : BitVec k} {p q : Prop}

/-- A field is read as it is. -/
theorem read_field {x : BitVec n} : x = w.extractLsb' s n ↔ w.extractLsb' s n = x := eq_comm

/-- A field of one bit is read as that bit. -/
theorem read_bit {b : Bool} : BitVec.ofBool b = w.extractLsb' s 1 ↔ bitAt w s = b := by
  have h : w.extractLsb' s 1 = BitVec.ofBool (bitAt w s) :=
    BitVec.eq_of_getLsbD_eq fun i hi => by
      obtain rfl : i = 0 := by omega
      simp [bitAt]
  rw [h, BitVec.ofBool_eq_iff_eq, eq_comm]

/-- Two fields that meet are read one after the other. -/
theorem read_fields {x : BitVec m} {y : BitVec n} (hx : x = w.extractLsb' (s + n) m ↔ q)
    (hy : y = w.extractLsb' s n ↔ p) : x ++ y = w.extractLsb' s (m + n) ↔ q ∧ p := by
  rw [← hx, ← hy, ← BitVec.extractLsb'_append_extractLsb'_eq_extractLsb' rfl]
  constructor
  · intro h
    have hl := congrArg (BitVec.extractLsb' n m) h
    have hr := congrArg (BitVec.extractLsb' 0 n) h
    simp only [BitVec.extractLsb'_append_eq_left, BitVec.extractLsb'_append_eq_right] at hl hr
    exact ⟨hl, hr⟩
  · rintro ⟨rfl, rfl⟩
    rfl

theorem field_then {x : BitVec m} {y : BitVec n} (hy : y = w.extractLsb' s n ↔ p) :
    x ++ y = w.extractLsb' s (m + n) ↔ w.extractLsb' (s + n) m = x ∧ p := read_fields read_field hy

theorem bit_then {b : Bool} {y : BitVec n} (hy : y = w.extractLsb' s n ↔ p) :
    BitVec.ofBool b ++ y = w.extractLsb' s (1 + n) ↔ bitAt w (s + n) = b ∧ p := read_fields read_bit hy

/-- A whole word is read from its first field. -/
theorem read_word {x : BitVec m} {y : BitVec n} {w : BitVec (m + n)} (hx : x = w.extractLsb' n m ↔ q)
    (hy : y = w.extractLsb' 0 n ↔ p) : x ++ y = w ↔ q ∧ p := by
  have h := read_fields (s := 0) (x := x) (w := w) (q := q) (by rw [Nat.zero_add]; exact hx) hy
  rwa [BitVec.extractLsb'_eq_self] at h

/-- Part of a field. -/
theorem field_in_field {x : BitVec n} (h : w.extractLsb' s n = x) (i l : Nat) (hl : i + l ≤ n := by decide) :
    w.extractLsb' (s + i) l = x.extractLsb' i l := by
  subst h
  refine BitVec.eq_of_getLsbD_eq fun j hj => ?_
  simp only [BitVec.getLsbD_extractLsb', hj, show i + j < n by omega, decide_true, Bool.true_and, Nat.add_assoc]

/-- A bit of a field. -/
theorem bit_in_field {x : BitVec n} (h : w.extractLsb' s n = x) (i : Nat) (hi : i < n := by decide) :
    bitAt w (s + i) = x.getLsbD i := by
  rw [← h, BitVec.getLsbD_extractLsb', decide_eq_true hi, Bool.true_and, bitAt]

end

/-! ### The fields of the operations -/

/-- The OpCode field (41 R179). -/
def AluOp.code : AluOp → BitVec 4
  | .and => 0#4 | .eor => 1#4 | .sub => 2#4 | .rsb => 3#4 | .add => 4#4 | .adc => 5#4 | .sbc => 6#4 | .rsc => 7#4
  | .orr => 12#4 | .mov => 13#4 | .bic => 14#4 | .mvn => 15#4

/-- The low two bits of the OpCode field of a test (41 R179). -/
def TestOp.code : TestOp → BitVec 2
  | .tst => 0#2 | .teq => 1#2 | .cmp => 2#2 | .cmn => 3#2

/-- The U and A bits (43 R227). -/
def LongOp.code : LongOp → BitVec 2
  | .umull => 0#2 | .umlal => 1#2 | .smull => 2#2 | .smlal => 3#2

/-- The B bit (44 R235). -/
def SdtOp.b : SdtOp → Bool
  | .str | .ldr => false
  | .strb | .ldrb => true

/-- The L bit (44 R235). -/
def SdtOp.l : SdtOp → Bool
  | .str | .strb => false
  | .ldr | .ldrb => true

/-- The S and H bits (44 R251). -/
def HdtOp.sh : HdtOp → BitVec 2
  | .strh | .ldrh => 1#2
  | .ldrsb => 2#2
  | .ldrsh => 3#2

/-- The L bit (44 R251). -/
def HdtOp.l : HdtOp → Bool
  | .strh => false
  | .ldrh | .ldrsb | .ldrsh => true

/-! ### The ARM encodings -/

section

variable {w : BitVec 32} {c : Cond} {p u wb s : Bool} {rn rd rs rm : Reg} {amt : BitVec 5} {ty : ShiftType}

/-- BX (40 R160). -/
theorem encode_bx :
    encode (.bx c rn) = .arm w ↔ w.extractLsb' 28 4 = c.bits ∧ w.extractLsb' 4 24 = 0x12FFF1#24 ∧
      w.extractLsb' 0 4 = rn := by
  rw [show encode (.bx c rn) = .arm (c.bits ++ (0x12FFF1#24 ++ rn)) by rfl, Code.arm.injEq]
  exact read_word read_field <| field_then read_field

/-- B (40 R162). -/
theorem encode_b {off : BitVec 24} :
    encode (.b c off) = .arm w ↔ w.extractLsb' 28 4 = c.bits ∧ (w.extractLsb' 25 3 = 5#3 ∧ bitAt w 24 = false) ∧
      w.extractLsb' 0 24 = off := by
  rw [show encode (.b c off) = .arm (c.bits ++ ((5#3 ++ BitVec.ofBool false) ++ off)) by rfl, Code.arm.injEq]
  exact read_word read_field <| read_fields (field_then read_bit) read_field

/-- BL (40 R162). -/
theorem encode_bl {off : BitVec 24} :
    encode (.bl c off) = .arm w ↔ w.extractLsb' 28 4 = c.bits ∧ (w.extractLsb' 25 3 = 5#3 ∧ bitAt w 24 = true) ∧
      w.extractLsb' 0 24 = off := by
  rw [show encode (.bl c off) = .arm (c.bits ++ ((5#3 ++ BitVec.ofBool true) ++ off)) by rfl, Code.arm.injEq]
  exact read_word read_field <| read_fields (field_then read_bit) read_field

/-- An operation on an immediate (41 R170). -/
theorem encode_aluImm {op : AluOp} {rot : BitVec 4} {imm : BitVec 8} :
    encode (.aluImm op c s rn rd rot imm) = .arm w ↔ w.extractLsb' 28 4 = c.bits ∧
      (w.extractLsb' 25 3 = 1#3 ∧ w.extractLsb' 21 4 = op.code) ∧ bitAt w 20 = s ∧ w.extractLsb' 16 4 = rn ∧
      w.extractLsb' 12 4 = rd ∧ w.extractLsb' 8 4 = rot ∧ w.extractLsb' 0 8 = imm := by
  have h : encode (.aluImm op c s rn rd rot imm) = .arm (c.bits ++ ((1#3 ++ op.code) ++ (BitVec.ofBool s ++ (rn ++ (rd
      ++ (rot ++ imm)))))) := by
    cases op <;> rfl
  rw [h, Code.arm.injEq]
  exact read_word read_field <| read_fields (field_then read_field) <| bit_then <| field_then <| field_then <|
    field_then read_field

/-- An operation on a register shifted by an immediate amount (41 R170). -/
theorem encode_aluShift {op : AluOp} :
    encode (.aluShift op c s rn rd amt ty rm) = .arm w ↔ w.extractLsb' 28 4 = c.bits ∧
      (w.extractLsb' 25 3 = 0#3 ∧ w.extractLsb' 21 4 = op.code) ∧ bitAt w 20 = s ∧ w.extractLsb' 16 4 = rn ∧
      w.extractLsb' 12 4 = rd ∧ w.extractLsb' 7 5 = amt ∧ w.extractLsb' 5 2 = ty.bits ∧ bitAt w 4 = false ∧
      w.extractLsb' 0 4 = rm := by
  have h : encode (.aluShift op c s rn rd amt ty rm) = .arm (c.bits ++ ((0#3 ++ op.code) ++ (BitVec.ofBool s ++ (rn ++
      (rd ++ (amt ++ (ty.bits ++ (BitVec.ofBool false ++ rm)))))))) := by
    cases op <;> rfl
  rw [h, Code.arm.injEq]
  exact read_word read_field <| read_fields (field_then read_field) <| bit_then <| field_then <| field_then <|
    field_then <| field_then <| bit_then read_field

/-- An operation on a register shifted by a register (41 R170). -/
theorem encode_aluReg {op : AluOp} :
    encode (.aluReg op c s rn rd rs ty rm) = .arm w ↔ w.extractLsb' 28 4 = c.bits ∧
      (w.extractLsb' 25 3 = 0#3 ∧ w.extractLsb' 21 4 = op.code) ∧ bitAt w 20 = s ∧ w.extractLsb' 16 4 = rn ∧
      w.extractLsb' 12 4 = rd ∧ w.extractLsb' 8 4 = rs ∧ bitAt w 7 = false ∧ w.extractLsb' 5 2 = ty.bits ∧
      bitAt w 4 = true ∧ w.extractLsb' 0 4 = rm := by
  have h : encode (.aluReg op c s rn rd rs ty rm) = .arm (c.bits ++ ((0#3 ++ op.code) ++ (BitVec.ofBool s ++ (rn ++
      (rd ++ (rs ++ (BitVec.ofBool false ++ (ty.bits ++ (BitVec.ofBool true ++ rm))))))))) := by
    cases op <;> rfl
  rw [h, Code.arm.injEq]
  exact read_word read_field <| read_fields (field_then read_field) <| bit_then <| field_then <| field_then <|
    field_then <| bit_then <| field_then <| bit_then read_field

/-- A test of an immediate (41 R170). -/
theorem encode_testImm {op : TestOp} {rot : BitVec 4} {imm : BitVec 8} :
    encode (.testImm op c rn rd rot imm) = .arm w ↔ w.extractLsb' 28 4 = c.bits ∧
      (w.extractLsb' 25 3 = 1#3 ∧ w.extractLsb' 23 2 = 2#2 ∧ w.extractLsb' 21 2 = op.code ∧ bitAt w 20 = true) ∧
      w.extractLsb' 16 4 = rn ∧ w.extractLsb' 12 4 = rd ∧ w.extractLsb' 8 4 = rot ∧ w.extractLsb' 0 8 = imm := by
  have h : encode (.testImm op c rn rd rot imm) = .arm (c.bits ++ ((1#3 ++ (2#2 ++ (op.code ++ BitVec.ofBool true)))
      ++ (rn ++ (rd ++ (rot ++ imm))))) := by
    cases op <;> rfl
  rw [h, Code.arm.injEq]
  exact read_word read_field <| read_fields (field_then <| field_then <| field_then read_bit) <| field_then <|
    field_then <| field_then read_field

/-- A test of a register shifted by an immediate amount (41 R170). -/
theorem encode_testShift {op : TestOp} :
    encode (.testShift op c rn rd amt ty rm) = .arm w ↔ w.extractLsb' 28 4 = c.bits ∧
      (w.extractLsb' 25 3 = 0#3 ∧ w.extractLsb' 23 2 = 2#2 ∧ w.extractLsb' 21 2 = op.code ∧ bitAt w 20 = true) ∧
      w.extractLsb' 16 4 = rn ∧ w.extractLsb' 12 4 = rd ∧ w.extractLsb' 7 5 = amt ∧ w.extractLsb' 5 2 = ty.bits ∧
      bitAt w 4 = false ∧ w.extractLsb' 0 4 = rm := by
  have h : encode (.testShift op c rn rd amt ty rm) = .arm (c.bits ++ ((0#3 ++ (2#2 ++ (op.code ++ BitVec.ofBool
      true))) ++ (rn ++ (rd ++ (amt ++ (ty.bits ++ (BitVec.ofBool false ++ rm))))))) := by
    cases op <;> rfl
  rw [h, Code.arm.injEq]
  exact read_word read_field <| read_fields (field_then <| field_then <| field_then read_bit) <| field_then <|
    field_then <| field_then <| field_then <| bit_then read_field

/-- A test of a register shifted by a register (41 R170). -/
theorem encode_testReg {op : TestOp} :
    encode (.testReg op c rn rd rs ty rm) = .arm w ↔ w.extractLsb' 28 4 = c.bits ∧
      (w.extractLsb' 25 3 = 0#3 ∧ w.extractLsb' 23 2 = 2#2 ∧ w.extractLsb' 21 2 = op.code ∧ bitAt w 20 = true) ∧
      w.extractLsb' 16 4 = rn ∧ w.extractLsb' 12 4 = rd ∧ w.extractLsb' 8 4 = rs ∧ bitAt w 7 = false ∧
      w.extractLsb' 5 2 = ty.bits ∧ bitAt w 4 = true ∧ w.extractLsb' 0 4 = rm := by
  have h : encode (.testReg op c rn rd rs ty rm) = .arm (c.bits ++ ((0#3 ++ (2#2 ++ (op.code ++ BitVec.ofBool true)))
      ++ (rn ++ (rd ++ (rs ++ (BitVec.ofBool false ++ (ty.bits ++ (BitVec.ofBool true ++ rm)))))))) := by
    cases op <;> rfl
  rw [h, Code.arm.injEq]
  exact read_word read_field <| read_fields (field_then <| field_then <| field_then read_bit) <| field_then <|
    field_then <| field_then <| bit_then <| field_then <| bit_then read_field

/-- MRS (42 R210). -/
theorem encode_mrs :
    encode (.mrs c s rd) = .arm w ↔ w.extractLsb' 28 4 = c.bits ∧
      (w.extractLsb' 25 3 = 0#3 ∧ w.extractLsb' 23 2 = 2#2) ∧ bitAt w 22 = s ∧ w.extractLsb' 16 6 = 0x0F#6 ∧
      w.extractLsb' 12 4 = rd ∧ w.extractLsb' 0 12 = 0#12 := by
  have h : encode (.mrs c s rd) = .arm (c.bits ++ ((0#3 ++ 2#2) ++ (BitVec.ofBool s ++ (0x0F#6 ++ (rd ++ 0#12))))) :=
      by
    rfl
  rw [h, Code.arm.injEq]
  exact read_word read_field <| read_fields (field_then read_field) <| bit_then <| field_then <| field_then read_field

/-- MSR, register to the whole PSR (42 R210). -/
theorem encode_msrReg :
    encode (.msrReg c s rm) = .arm w ↔ w.extractLsb' 28 4 = c.bits ∧
      (w.extractLsb' 25 3 = 0#3 ∧ w.extractLsb' 23 2 = 2#2) ∧ bitAt w 22 = s ∧
      (w.extractLsb' 12 10 = 0x29F#10 ∧ w.extractLsb' 4 8 = 0#8) ∧ w.extractLsb' 0 4 = rm := by
  have h : encode (.msrReg c s rm) = .arm (c.bits ++ ((0#3 ++ 2#2) ++ (BitVec.ofBool s ++ ((0x29F#10 ++ 0#8) ++ rm))))
      := by
    rfl
  rw [h, Code.arm.injEq]
  exact read_word read_field <| read_fields (field_then read_field) <| bit_then <| read_fields (field_then read_field)
    read_field

/-- MSR, register to the flags (42 R210). -/
theorem encode_msrFlagsReg :
    encode (.msrFlagsReg c s rm) = .arm w ↔ w.extractLsb' 28 4 = c.bits ∧
      (w.extractLsb' 25 3 = 0#3 ∧ w.extractLsb' 23 2 = 2#2) ∧ bitAt w 22 = s ∧
      (w.extractLsb' 12 10 = 0x28F#10 ∧ w.extractLsb' 4 8 = 0#8) ∧ w.extractLsb' 0 4 = rm := by
  have h : encode (.msrFlagsReg c s rm) = .arm (c.bits ++ ((0#3 ++ 2#2) ++ (BitVec.ofBool s ++ ((0x28F#10 ++ 0#8) ++
      rm)))) := by
    rfl
  rw [h, Code.arm.injEq]
  exact read_word read_field <| read_fields (field_then read_field) <| bit_then <| read_fields (field_then read_field)
    read_field

/-- MSR, immediate to the flags (42 R210). -/
theorem encode_msrFlagsImm {rot : BitVec 4} {imm : BitVec 8} :
    encode (.msrFlagsImm c s rot imm) = .arm w ↔ w.extractLsb' 28 4 = c.bits ∧
      (w.extractLsb' 25 3 = 1#3 ∧ w.extractLsb' 23 2 = 2#2) ∧ bitAt w 22 = s ∧ w.extractLsb' 12 10 = 0x28F#10 ∧
      w.extractLsb' 8 4 = rot ∧ w.extractLsb' 0 8 = imm := by
  have h : encode (.msrFlagsImm c s rot imm) = .arm (c.bits ++ ((1#3 ++ 2#2) ++ (BitVec.ofBool s ++ (0x28F#10 ++ (rot
      ++ imm))))) := by
    rfl
  rw [h, Code.arm.injEq]
  exact read_word read_field <| read_fields (field_then read_field) <| bit_then <| field_then <| field_then read_field

/-- MUL (43 R220). -/
theorem encode_mul :
    encode (.mul c s rd rn rs rm) = .arm w ↔ w.extractLsb' 28 4 = c.bits ∧
      (w.extractLsb' 25 3 = 0#3 ∧ w.extractLsb' 22 3 = 0#3 ∧ bitAt w 21 = false) ∧ bitAt w 20 = s ∧
      w.extractLsb' 16 4 = rd ∧ w.extractLsb' 12 4 = rn ∧ w.extractLsb' 8 4 = rs ∧ w.extractLsb' 4 4 = 9#4 ∧
      w.extractLsb' 0 4 = rm := by
  have h : encode (.mul c s rd rn rs rm) = .arm (c.bits ++ ((0#3 ++ (0#3 ++ BitVec.ofBool false)) ++ (BitVec.ofBool s
      ++ (rd ++ (rn ++ (rs ++ (9#4 ++ rm))))))) := by
    rfl
  rw [h, Code.arm.injEq]
  exact read_word read_field <| read_fields (field_then <| field_then read_bit) <| bit_then <| field_then <|
    field_then <| field_then <| field_then read_field

/-- MLA (43 R220). -/
theorem encode_mla :
    encode (.mla c s rd rn rs rm) = .arm w ↔ w.extractLsb' 28 4 = c.bits ∧
      (w.extractLsb' 25 3 = 0#3 ∧ w.extractLsb' 22 3 = 0#3 ∧ bitAt w 21 = true) ∧ bitAt w 20 = s ∧
      w.extractLsb' 16 4 = rd ∧ w.extractLsb' 12 4 = rn ∧ w.extractLsb' 8 4 = rs ∧ w.extractLsb' 4 4 = 9#4 ∧
      w.extractLsb' 0 4 = rm := by
  have h : encode (.mla c s rd rn rs rm) = .arm (c.bits ++ ((0#3 ++ (0#3 ++ BitVec.ofBool true)) ++ (BitVec.ofBool s
      ++ (rd ++ (rn ++ (rs ++ (9#4 ++ rm))))))) := by
    rfl
  rw [h, Code.arm.injEq]
  exact read_word read_field <| read_fields (field_then <| field_then read_bit) <| bit_then <| field_then <|
    field_then <| field_then <| field_then read_field

/-- A long multiply (43 R227). -/
theorem encode_mulLong {op : LongOp} {hi lo : Reg} :
    encode (.mulLong op c s hi lo rs rm) = .arm w ↔ w.extractLsb' 28 4 = c.bits ∧
      (w.extractLsb' 25 3 = 0#3 ∧ w.extractLsb' 23 2 = 1#2 ∧ w.extractLsb' 21 2 = op.code) ∧ bitAt w 20 = s ∧
      w.extractLsb' 16 4 = hi ∧ w.extractLsb' 12 4 = lo ∧ w.extractLsb' 8 4 = rs ∧ w.extractLsb' 4 4 = 9#4 ∧
      w.extractLsb' 0 4 = rm := by
  have h : encode (.mulLong op c s hi lo rs rm) = .arm (c.bits ++ ((0#3 ++ (1#2 ++ op.code)) ++ (BitVec.ofBool s ++
      (hi ++ (lo ++ (rs ++ (9#4 ++ rm))))))) := by
    cases op <;> rfl
  rw [h, Code.arm.injEq]
  exact read_word read_field <| read_fields (field_then <| field_then read_field) <| bit_then <| field_then <|
    field_then <| field_then <| field_then read_field

/-- SWP (45 R284). -/
theorem encode_swp :
    encode (.swp c rn rd rm) = .arm w ↔ w.extractLsb' 28 4 = c.bits ∧
      (w.extractLsb' 25 3 = 0#3 ∧ w.extractLsb' 23 2 = 2#2 ∧ bitAt w 22 = false ∧ w.extractLsb' 20 2 = 0#2) ∧
      w.extractLsb' 16 4 = rn ∧ w.extractLsb' 12 4 = rd ∧ (w.extractLsb' 8 4 = 0#4 ∧ w.extractLsb' 4 4 = 9#4) ∧
      w.extractLsb' 0 4 = rm := by
  have h : encode (.swp c rn rd rm) = .arm (c.bits ++ ((0#3 ++ (2#2 ++ (BitVec.ofBool false ++ 0#2))) ++ (rn ++ (rd ++
      ((0#4 ++ 9#4) ++ rm))))) := by
    rfl
  rw [h, Code.arm.injEq]
  exact read_word read_field <| read_fields (field_then <| field_then <| bit_then read_field) <| field_then <|
    field_then <| read_fields (field_then read_field) read_field

/-- SWPB (45 R284). -/
theorem encode_swpb :
    encode (.swpb c rn rd rm) = .arm w ↔ w.extractLsb' 28 4 = c.bits ∧
      (w.extractLsb' 25 3 = 0#3 ∧ w.extractLsb' 23 2 = 2#2 ∧ bitAt w 22 = true ∧ w.extractLsb' 20 2 = 0#2) ∧
      w.extractLsb' 16 4 = rn ∧ w.extractLsb' 12 4 = rd ∧ (w.extractLsb' 8 4 = 0#4 ∧ w.extractLsb' 4 4 = 9#4) ∧
      w.extractLsb' 0 4 = rm := by
  have h : encode (.swpb c rn rd rm) = .arm (c.bits ++ ((0#3 ++ (2#2 ++ (BitVec.ofBool true ++ 0#2))) ++ (rn ++ (rd ++
      ((0#4 ++ 9#4) ++ rm))))) := by
    rfl
  rw [h, Code.arm.injEq]
  exact read_word read_field <| read_fields (field_then <| field_then <| bit_then read_field) <| field_then <|
    field_then <| read_fields (field_then read_field) read_field

/-- A halfword or signed transfer, register offset (44 R251). -/
theorem encode_hdtReg {op : HdtOp} :
    encode (.hdtReg op c p u wb rn rd rm) = .arm w ↔ w.extractLsb' 28 4 = c.bits ∧ w.extractLsb' 25 3 = 0#3 ∧
      bitAt w 24 = p ∧ bitAt w 23 = u ∧ bitAt w 22 = false ∧ bitAt w 21 = wb ∧ bitAt w 20 = op.l ∧
      w.extractLsb' 16 4 = rn ∧ w.extractLsb' 12 4 = rd ∧
      (w.extractLsb' 8 4 = 0#4 ∧ bitAt w 7 = true ∧ w.extractLsb' 5 2 = op.sh ∧ bitAt w 4 = true) ∧
      w.extractLsb' 0 4 = rm := by
  have h : encode (.hdtReg op c p u wb rn rd rm) = .arm (c.bits ++ (0#3 ++ (BitVec.ofBool p ++ (BitVec.ofBool u ++
      (BitVec.ofBool false ++ (BitVec.ofBool wb ++ (BitVec.ofBool op.l ++ (rn ++ (rd ++ ((0#4 ++ (BitVec.ofBool true
      ++ (op.sh ++ BitVec.ofBool true))) ++ rm)))))))))) := by
    cases op <;> rfl
  rw [h, Code.arm.injEq]
  exact read_word read_field <| field_then <| bit_then <| bit_then <| bit_then <| bit_then <| bit_then <| field_then
    <| field_then <| read_fields (field_then <| bit_then <| field_then read_bit) read_field

/-- A halfword or signed transfer, immediate offset (44 R252). -/
theorem encode_hdtImm {op : HdtOp} {off : BitVec 8} :
    encode (.hdtImm op c p u wb rn rd off) = .arm w ↔ w.extractLsb' 28 4 = c.bits ∧ w.extractLsb' 25 3 = 0#3 ∧
      bitAt w 24 = p ∧ bitAt w 23 = u ∧ bitAt w 22 = true ∧ bitAt w 21 = wb ∧ bitAt w 20 = op.l ∧
      w.extractLsb' 16 4 = rn ∧ w.extractLsb' 12 4 = rd ∧ w.extractLsb' 8 4 = off.extractLsb' 4 4 ∧
      (bitAt w 7 = true ∧ w.extractLsb' 5 2 = op.sh ∧ bitAt w 4 = true) ∧ w.extractLsb' 0 4 = off.extractLsb' 0 4 := by
  have h : encode (.hdtImm op c p u wb rn rd off) = .arm (c.bits ++ (0#3 ++ (BitVec.ofBool p ++ (BitVec.ofBool u ++
      (BitVec.ofBool true ++ (BitVec.ofBool wb ++ (BitVec.ofBool op.l ++ (rn ++ (rd ++ (off.extractLsb' 4 4 ++
      ((BitVec.ofBool true ++ (op.sh ++ BitVec.ofBool true)) ++ off.extractLsb' 0 4))))))))))) := by
    cases op <;> rfl
  rw [h, Code.arm.injEq]
  exact read_word read_field <| field_then <| bit_then <| bit_then <| bit_then <| bit_then <| bit_then <| field_then
    <| field_then <| field_then <| read_fields (bit_then <| field_then read_bit) read_field

/-- A single transfer, pre-indexed, immediate offset (44 R235). -/
theorem encode_sdtImmPre {op : SdtOp} {off : BitVec 12} :
    encode (.sdtImmPre op c u wb rn rd off) = .arm w ↔ w.extractLsb' 28 4 = c.bits ∧
      (w.extractLsb' 25 3 = 2#3 ∧ bitAt w 24 = true) ∧ bitAt w 23 = u ∧ bitAt w 22 = op.b ∧ bitAt w 21 = wb ∧
      bitAt w 20 = op.l ∧ w.extractLsb' 16 4 = rn ∧ w.extractLsb' 12 4 = rd ∧ w.extractLsb' 0 12 = off := by
  have h : encode (.sdtImmPre op c u wb rn rd off) = .arm (c.bits ++ ((2#3 ++ BitVec.ofBool true) ++ (BitVec.ofBool u
      ++ (BitVec.ofBool op.b ++ (BitVec.ofBool wb ++ (BitVec.ofBool op.l ++ (rn ++ (rd ++ off)))))))) := by
    cases op <;> rfl
  rw [h, Code.arm.injEq]
  exact read_word read_field <| read_fields (field_then read_bit) <| bit_then <| bit_then <| bit_then <| bit_then <|
    field_then <| field_then read_field

/-- A single transfer, post-indexed, immediate offset (44 R235). -/
theorem encode_sdtImmPost {op : SdtOp} {off : BitVec 12} :
    encode (.sdtImmPost op c u rn rd off) = .arm w ↔ w.extractLsb' 28 4 = c.bits ∧
      (w.extractLsb' 25 3 = 2#3 ∧ bitAt w 24 = false) ∧ bitAt w 23 = u ∧
      (bitAt w 22 = op.b ∧ bitAt w 21 = false ∧ bitAt w 20 = op.l) ∧ w.extractLsb' 16 4 = rn ∧
      w.extractLsb' 12 4 = rd ∧ w.extractLsb' 0 12 = off := by
  have h : encode (.sdtImmPost op c u rn rd off) = .arm (c.bits ++ ((2#3 ++ BitVec.ofBool false) ++ (BitVec.ofBool u
      ++ ((BitVec.ofBool op.b ++ (BitVec.ofBool false ++ BitVec.ofBool op.l)) ++ (rn ++ (rd ++ off)))))) := by
    cases op <;> rfl
  rw [h, Code.arm.injEq]
  exact read_word read_field <| read_fields (field_then read_bit) <| bit_then <| read_fields (bit_then <| bit_then
    read_bit) <| field_then <| field_then read_field

/-- A T form, immediate offset (44 R243). -/
theorem encode_sdtTImm {op : SdtOp} {off : BitVec 12} :
    encode (.sdtTImm op c u rn rd off) = .arm w ↔ w.extractLsb' 28 4 = c.bits ∧
      (w.extractLsb' 25 3 = 2#3 ∧ bitAt w 24 = false) ∧ bitAt w 23 = u ∧
      (bitAt w 22 = op.b ∧ bitAt w 21 = true ∧ bitAt w 20 = op.l) ∧ w.extractLsb' 16 4 = rn ∧
      w.extractLsb' 12 4 = rd ∧ w.extractLsb' 0 12 = off := by
  have h : encode (.sdtTImm op c u rn rd off) = .arm (c.bits ++ ((2#3 ++ BitVec.ofBool false) ++ (BitVec.ofBool u ++
      ((BitVec.ofBool op.b ++ (BitVec.ofBool true ++ BitVec.ofBool op.l)) ++ (rn ++ (rd ++ off)))))) := by
    cases op <;> rfl
  rw [h, Code.arm.injEq]
  exact read_word read_field <| read_fields (field_then read_bit) <| bit_then <| read_fields (bit_then <| bit_then
    read_bit) <| field_then <| field_then read_field

/-- A single transfer, pre-indexed, register offset (44 R235). -/
theorem encode_sdtRegPre {op : SdtOp} :
    encode (.sdtRegPre op c u wb rn rd amt ty rm) = .arm w ↔ w.extractLsb' 28 4 = c.bits ∧
      (w.extractLsb' 25 3 = 3#3 ∧ bitAt w 24 = true) ∧ bitAt w 23 = u ∧ bitAt w 22 = op.b ∧ bitAt w 21 = wb ∧
      bitAt w 20 = op.l ∧ w.extractLsb' 16 4 = rn ∧ w.extractLsb' 12 4 = rd ∧ w.extractLsb' 7 5 = amt ∧
      w.extractLsb' 5 2 = ty.bits ∧ bitAt w 4 = false ∧ w.extractLsb' 0 4 = rm := by
  have h : encode (.sdtRegPre op c u wb rn rd amt ty rm) = .arm (c.bits ++ ((3#3 ++ BitVec.ofBool true) ++
      (BitVec.ofBool u ++ (BitVec.ofBool op.b ++ (BitVec.ofBool wb ++ (BitVec.ofBool op.l ++ (rn ++ (rd ++ (amt ++
      (ty.bits ++ (BitVec.ofBool false ++ rm))))))))))) := by
    cases op <;> rfl
  rw [h, Code.arm.injEq]
  exact read_word read_field <| read_fields (field_then read_bit) <| bit_then <| bit_then <| bit_then <| bit_then <|
    field_then <| field_then <| field_then <| field_then <| bit_then read_field

/-- A single transfer, post-indexed, register offset (44 R235). -/
theorem encode_sdtRegPost {op : SdtOp} :
    encode (.sdtRegPost op c u rn rd amt ty rm) = .arm w ↔ w.extractLsb' 28 4 = c.bits ∧
      (w.extractLsb' 25 3 = 3#3 ∧ bitAt w 24 = false) ∧ bitAt w 23 = u ∧
      (bitAt w 22 = op.b ∧ bitAt w 21 = false ∧ bitAt w 20 = op.l) ∧ w.extractLsb' 16 4 = rn ∧
      w.extractLsb' 12 4 = rd ∧ w.extractLsb' 7 5 = amt ∧ w.extractLsb' 5 2 = ty.bits ∧ bitAt w 4 = false ∧
      w.extractLsb' 0 4 = rm := by
  have h : encode (.sdtRegPost op c u rn rd amt ty rm) = .arm (c.bits ++ ((3#3 ++ BitVec.ofBool false) ++
      (BitVec.ofBool u ++ ((BitVec.ofBool op.b ++ (BitVec.ofBool false ++ BitVec.ofBool op.l)) ++ (rn ++ (rd ++ (amt
      ++ (ty.bits ++ (BitVec.ofBool false ++ rm))))))))) := by
    cases op <;> rfl
  rw [h, Code.arm.injEq]
  exact read_word read_field <| read_fields (field_then read_bit) <| bit_then <| read_fields (bit_then <| bit_then
    read_bit) <| field_then <| field_then <| field_then <| field_then <| bit_then read_field

/-- A T form, register offset (44 R243). -/
theorem encode_sdtTReg {op : SdtOp} :
    encode (.sdtTReg op c u rn rd amt ty rm) = .arm w ↔ w.extractLsb' 28 4 = c.bits ∧
      (w.extractLsb' 25 3 = 3#3 ∧ bitAt w 24 = false) ∧ bitAt w 23 = u ∧
      (bitAt w 22 = op.b ∧ bitAt w 21 = true ∧ bitAt w 20 = op.l) ∧ w.extractLsb' 16 4 = rn ∧
      w.extractLsb' 12 4 = rd ∧ w.extractLsb' 7 5 = amt ∧ w.extractLsb' 5 2 = ty.bits ∧ bitAt w 4 = false ∧
      w.extractLsb' 0 4 = rm := by
  have h : encode (.sdtTReg op c u rn rd amt ty rm) = .arm (c.bits ++ ((3#3 ++ BitVec.ofBool false) ++ (BitVec.ofBool
      u ++ ((BitVec.ofBool op.b ++ (BitVec.ofBool true ++ BitVec.ofBool op.l)) ++ (rn ++ (rd ++ (amt ++ (ty.bits ++
      (BitVec.ofBool false ++ rm))))))))) := by
    cases op <;> rfl
  rw [h, Code.arm.injEq]
  exact read_word read_field <| read_fields (field_then read_bit) <| bit_then <| read_fields (bit_then <| bit_then
    read_bit) <| field_then <| field_then <| field_then <| field_then <| bit_then read_field

/-- The Undefined instruction (46 R310). -/
theorem encode_undef {x : BitVec 20} {y : BitVec 4} :
    encode (.undef c x y) = .arm w ↔ w.extractLsb' 28 4 = c.bits ∧ w.extractLsb' 25 3 = 3#3 ∧ w.extractLsb' 5 20 = x ∧
      bitAt w 4 = true ∧ w.extractLsb' 0 4 = y := by
  rw [show encode (.undef c x y) = .arm (c.bits ++ (3#3 ++ (x ++ (BitVec.ofBool true ++ y)))) by rfl, Code.arm.injEq]
  exact read_word read_field <| field_then <| field_then <| bit_then read_field

/-- STM (45 R265). -/
theorem encode_stm {list : BitVec 16} :
    encode (.stm c p u s wb rn list) = .arm w ↔ w.extractLsb' 28 4 = c.bits ∧ w.extractLsb' 25 3 = 4#3 ∧
      bitAt w 24 = p ∧ bitAt w 23 = u ∧ bitAt w 22 = s ∧ bitAt w 21 = wb ∧ bitAt w 20 = false ∧
      w.extractLsb' 16 4 = rn ∧ w.extractLsb' 0 16 = list := by
  have h : encode (.stm c p u s wb rn list) = .arm (c.bits ++ (4#3 ++ (BitVec.ofBool p ++ (BitVec.ofBool u ++
      (BitVec.ofBool s ++ (BitVec.ofBool wb ++ (BitVec.ofBool false ++ (rn ++ list)))))))) := by
    rfl
  rw [h, Code.arm.injEq]
  exact read_word read_field <| field_then <| bit_then <| bit_then <| bit_then <| bit_then <| bit_then <| field_then
    read_field

/-- LDM (45 R265). -/
theorem encode_ldm {list : BitVec 16} :
    encode (.ldm c p u s wb rn list) = .arm w ↔ w.extractLsb' 28 4 = c.bits ∧ w.extractLsb' 25 3 = 4#3 ∧
      bitAt w 24 = p ∧ bitAt w 23 = u ∧ bitAt w 22 = s ∧ bitAt w 21 = wb ∧ bitAt w 20 = true ∧
      w.extractLsb' 16 4 = rn ∧ w.extractLsb' 0 16 = list := by
  have h : encode (.ldm c p u s wb rn list) = .arm (c.bits ++ (4#3 ++ (BitVec.ofBool p ++ (BitVec.ofBool u ++
      (BitVec.ofBool s ++ (BitVec.ofBool wb ++ (BitVec.ofBool true ++ (rn ++ list)))))))) := by
    rfl
  rw [h, Code.arm.injEq]
  exact read_word read_field <| field_then <| bit_then <| bit_then <| bit_then <| bit_then <| bit_then <| field_then
    read_field

/-- STC (46 R300). -/
theorem encode_stc {crd cp : BitVec 4} {off : BitVec 8} :
    encode (.stc c p u s wb rn crd cp off) = .arm w ↔ w.extractLsb' 28 4 = c.bits ∧ w.extractLsb' 25 3 = 6#3 ∧
      bitAt w 24 = p ∧ bitAt w 23 = u ∧ bitAt w 22 = s ∧ bitAt w 21 = wb ∧ bitAt w 20 = false ∧
      w.extractLsb' 16 4 = rn ∧ w.extractLsb' 12 4 = crd ∧ w.extractLsb' 8 4 = cp ∧ w.extractLsb' 0 8 = off := by
  have h : encode (.stc c p u s wb rn crd cp off) = .arm (c.bits ++ (6#3 ++ (BitVec.ofBool p ++ (BitVec.ofBool u ++
      (BitVec.ofBool s ++ (BitVec.ofBool wb ++ (BitVec.ofBool false ++ (rn ++ (crd ++ (cp ++ off)))))))))) := by
    rfl
  rw [h, Code.arm.injEq]
  exact read_word read_field <| field_then <| bit_then <| bit_then <| bit_then <| bit_then <| bit_then <| field_then
    <| field_then <| field_then read_field

/-- LDC (46 R300). -/
theorem encode_ldc {crd cp : BitVec 4} {off : BitVec 8} :
    encode (.ldc c p u s wb rn crd cp off) = .arm w ↔ w.extractLsb' 28 4 = c.bits ∧ w.extractLsb' 25 3 = 6#3 ∧
      bitAt w 24 = p ∧ bitAt w 23 = u ∧ bitAt w 22 = s ∧ bitAt w 21 = wb ∧ bitAt w 20 = true ∧
      w.extractLsb' 16 4 = rn ∧ w.extractLsb' 12 4 = crd ∧ w.extractLsb' 8 4 = cp ∧ w.extractLsb' 0 8 = off := by
  have h : encode (.ldc c p u s wb rn crd cp off) = .arm (c.bits ++ (6#3 ++ (BitVec.ofBool p ++ (BitVec.ofBool u ++
      (BitVec.ofBool s ++ (BitVec.ofBool wb ++ (BitVec.ofBool true ++ (rn ++ (crd ++ (cp ++ off)))))))))) := by
    rfl
  rw [h, Code.arm.injEq]
  exact read_word read_field <| field_then <| bit_then <| bit_then <| bit_then <| bit_then <| bit_then <| field_then
    <| field_then <| field_then read_field

/-- CDP (46 R298). -/
theorem encode_cdp {opc crn crd cp crm : BitVec 4} {info : BitVec 3} :
    encode (.cdp c opc crn crd cp info crm) = .arm w ↔ w.extractLsb' 28 4 = c.bits ∧
      (w.extractLsb' 25 3 = 7#3 ∧ bitAt w 24 = false) ∧ w.extractLsb' 20 4 = opc ∧ w.extractLsb' 16 4 = crn ∧
      w.extractLsb' 12 4 = crd ∧ w.extractLsb' 8 4 = cp ∧ w.extractLsb' 5 3 = info ∧ bitAt w 4 = false ∧
      w.extractLsb' 0 4 = crm := by
  have h : encode (.cdp c opc crn crd cp info crm) = .arm (c.bits ++ ((7#3 ++ BitVec.ofBool false) ++ (opc ++ (crn ++
      (crd ++ (cp ++ (info ++ (BitVec.ofBool false ++ crm)))))))) := by
    rfl
  rw [h, Code.arm.injEq]
  exact read_word read_field <| read_fields (field_then read_bit) <| field_then <| field_then <| field_then <|
    field_then <| field_then <| bit_then read_field

/-- MCR (46 R305). -/
theorem encode_mcr {opc info : BitVec 3} {crn cp crm : BitVec 4} :
    encode (.mcr c opc crn rd cp info crm) = .arm w ↔ w.extractLsb' 28 4 = c.bits ∧
      (w.extractLsb' 25 3 = 7#3 ∧ bitAt w 24 = false) ∧ w.extractLsb' 21 3 = opc ∧ bitAt w 20 = false ∧
      w.extractLsb' 16 4 = crn ∧ w.extractLsb' 12 4 = rd ∧ w.extractLsb' 8 4 = cp ∧ w.extractLsb' 5 3 = info ∧
      bitAt w 4 = true ∧ w.extractLsb' 0 4 = crm := by
  have h : encode (.mcr c opc crn rd cp info crm) = .arm (c.bits ++ ((7#3 ++ BitVec.ofBool false) ++ (opc ++
      (BitVec.ofBool false ++ (crn ++ (rd ++ (cp ++ (info ++ (BitVec.ofBool true ++ crm))))))))) := by
    rfl
  rw [h, Code.arm.injEq]
  exact read_word read_field <| read_fields (field_then read_bit) <| field_then <| bit_then <| field_then <|
    field_then <| field_then <| field_then <| bit_then read_field

/-- MRC (46 R305). -/
theorem encode_mrc {opc info : BitVec 3} {crn cp crm : BitVec 4} :
    encode (.mrc c opc crn rd cp info crm) = .arm w ↔ w.extractLsb' 28 4 = c.bits ∧
      (w.extractLsb' 25 3 = 7#3 ∧ bitAt w 24 = false) ∧ w.extractLsb' 21 3 = opc ∧ bitAt w 20 = true ∧
      w.extractLsb' 16 4 = crn ∧ w.extractLsb' 12 4 = rd ∧ w.extractLsb' 8 4 = cp ∧ w.extractLsb' 5 3 = info ∧
      bitAt w 4 = true ∧ w.extractLsb' 0 4 = crm := by
  have h : encode (.mrc c opc crn rd cp info crm) = .arm (c.bits ++ ((7#3 ++ BitVec.ofBool false) ++ (opc ++
      (BitVec.ofBool true ++ (crn ++ (rd ++ (cp ++ (info ++ (BitVec.ofBool true ++ crm))))))))) := by
    rfl
  rw [h, Code.arm.injEq]
  exact read_word read_field <| read_fields (field_then read_bit) <| field_then <| bit_then <| field_then <|
    field_then <| field_then <| field_then <| bit_then read_field

/-- SWI (46 R290). -/
theorem encode_swi {k : BitVec 24} :
    encode (.swi c k) = .arm w ↔ w.extractLsb' 28 4 = c.bits ∧ (w.extractLsb' 25 3 = 7#3 ∧ bitAt w 24 = true) ∧
      w.extractLsb' 0 24 = k := by
  rw [show encode (.swi c k) = .arm (c.bits ++ ((7#3 ++ BitVec.ofBool true) ++ k)) by rfl, Code.arm.injEq]
  exact read_word read_field <| read_fields (field_then read_bit) read_field

end

end Sys2Proof
end

section
/-! The ARM decoder on an encoding: the fields of each shape lead it to the branch of that shape (30 R103). -/

namespace Sys2Proof

-- Elaborated one after the other: side by side, the threads of one large text pass the memory of the check.
set_option Elab.async false

/-! ### The operation of a field -/

theorem Cond.ofBits_bits (c : Cond) : Cond.ofBits c.bits = some c := by cases c <;> rfl
theorem ShiftType.ofBits_bits (ty : ShiftType) : ShiftType.ofBits ty.bits = ty := by cases ty <;> rfl
theorem AluOp.ofBits_code (op : AluOp) : AluOp.ofBits op.code = op := by cases op <;> rfl
theorem TestOp.ofBits_code (op : TestOp) : TestOp.ofBits op.code = op := by cases op <;> rfl
theorem LongOp.ofBits_code (op : LongOp) : LongOp.ofBits op.code = op := by cases op <;> rfl
theorem HdtOp.ofBits_code (op : HdtOp) : HdtOp.ofBits op.sh op.l = op := by cases op <;> rfl

/-- The high half of the OpCode field of an operation is not that of the tests. -/
theorem AluOp.code_not_test (op : AluOp) : op.code.extractLsb' 2 2 ≠ 2#2 := by cases op <;> decide

/-! ### Bits 27:25 = 001 and the branches -/

section

variable {w : BitVec 32} {c : Cond} {p u wb s : Bool} {rn rd rs rm : Reg} {amt : BitVec 5} {ty : ShiftType}

/-- The B and L bits name a single transfer (44 R235). -/
theorem sdtBits_eq_iff {op : SdtOp} : sdtBits w = op ↔ bitAt w 22 = op.b ∧ bitAt w 20 = op.l := by
  have h (i : Nat) : w.extractLsb' i 1 = BitVec.ofBool (bitAt w i) := (read_bit.mpr rfl).symm
  rw [sdtBits, h, h]
  cases bitAt w 22 <;> cases bitAt w 20 <;> cases op <;> decide

/-- The condition of an encoding is read back (30 R104). -/
theorem body_of_cond (hc : w.extractLsb' 28 4 = c.bits) : decodeArm w = decodeArmBody c w :=
  decodeArm_eq_body (hc ▸ c.ofBits_bits)

theorem decodeArm_of_bx (h : encode (.bx c rn) = .arm w) : decodeArm w = .ok (.bx c rn) := by
  obtain ⟨hc, hop, hn⟩ := encode_bx.mp h
  have hf : w.extractLsb' 25 3 = 0#3 := field_in_field hop 21 3
  simp [body_of_cond hc, decodeArmBody, decodeArm000, *]

theorem decodeArm_of_aluImm {op : AluOp} {rot : BitVec 4} {imm : BitVec 8}
    (h : encode (.aluImm op c s rn rd rot imm) = .arm w) : decodeArm w = .ok (.aluImm op c s rn rd rot imm) := by
  obtain ⟨hc, ⟨hf, hop⟩, hs, hn, hd, hr, hi⟩ := encode_aluImm.mp h
  have ht : w.extractLsb' 23 2 ≠ 2#2 := field_in_field hop 2 2 ▸ op.code_not_test
  simp [body_of_cond hc, decodeArmBody, decodeArm001, decodeDpImm, AluOp.ofBits_code, *]


theorem decodeArm_of_b {off : BitVec 24} (h : encode (.b c off) = .arm w) : decodeArm w = .ok (.b c off) := by
  obtain ⟨hc, ⟨hf, hl⟩, ho⟩ := encode_b.mp h
  rw [decodeArm_b (hc ▸ c.ofBits_bits) hf hl, ho]

theorem decodeArm_of_bl {off : BitVec 24} (h : encode (.bl c off) = .arm w) : decodeArm w = .ok (.bl c off) := by
  obtain ⟨hc, ⟨hf, hl⟩, ho⟩ := encode_bl.mp h
  simp [body_of_cond hc, decodeArmBody, *]

theorem decodeArm_of_testImm {op : TestOp} {rot : BitVec 4} {imm : BitVec 8}
    (h : encode (.testImm op c rn rd rot imm) = .arm w) : decodeArm w = .ok (.testImm op c rn rd rot imm) := by
  obtain ⟨hc, ⟨hf, ht, hop, hs⟩, hn, hd, hr, hi⟩ := encode_testImm.mp h
  rw [decodeArm_testImm (hc ▸ c.ofBits_bits) hf ht hs, hop, hn, hd, hr, hi, op.ofBits_code]

theorem decodeArm_of_msrFlagsImm {rot : BitVec 4} {imm : BitVec 8}
    (h : encode (.msrFlagsImm c s rot imm) = .arm w) : decodeArm w = .ok (.msrFlagsImm c s rot imm) := by
  obtain ⟨hc, ⟨hf, ht⟩, hs, hm, hr, hi⟩ := encode_msrFlagsImm.mp h
  have h20 : bitAt w 20 = false := bit_in_field hm 8
  simp [body_of_cond hc, decodeArmBody, decodeArm001, *]

/-! ### Bits 27:25 = 000 -/

/-- BX has bits 7:4 = 0001. -/
theorem not_bx_of_low {v : BitVec 4} (h : w.extractLsb' 4 4 = v) (hv : v ≠ 1#4) : w.extractLsb' 4 24 ≠ 0x12FFF1#24 :=
  fun hx => hv (h.symm.trans (field_in_field hx 0 4))

theorem decodeArm_of_aluShift {op : AluOp} (h : encode (.aluShift op c s rn rd amt ty rm) = .arm w) :
    decodeArm w = .ok (.aluShift op c s rn rd amt ty rm) := by
  obtain ⟨hc, ⟨hf, hop⟩, hs, hn, hd, ha, hty, h4, hm⟩ := encode_aluShift.mp h
  have ht : w.extractLsb' 23 2 ≠ 2#2 := field_in_field hop 2 2 ▸ op.code_not_test
  rw [decodeArm_aluShift (hc ▸ c.ofBits_bits) hf ht h4, hop, hs, hn, hd, ha, hty, hm, op.ofBits_code, ty.ofBits_bits]

theorem decodeArm_of_aluReg {op : AluOp} (h : encode (.aluReg op c s rn rd rs ty rm) = .arm w) :
    decodeArm w = .ok (.aluReg op c s rn rd rs ty rm) := by
  obtain ⟨hc, ⟨hf, hop⟩, hs, hn, hd, hr, h7, hty, h4, hm⟩ := encode_aluReg.mp h
  have ht : w.extractLsb' 23 2 ≠ 2#2 := field_in_field hop 2 2 ▸ op.code_not_test
  rw [decodeArm_aluReg (hc ▸ c.ofBits_bits) hf ht h4 h7, hop, hs, hn, hd, hr, hty, hm, op.ofBits_code, ty.ofBits_bits]

/-- A test opcode with S = 1 and bit 4 or bit 7 clear is data processing with a register operand (30 R103). -/
theorem decodeArm_testDpReg (hc : w.extractLsb' 28 4 = c.bits) (hf : w.extractLsb' 25 3 = 0#3) (hs : bitAt w 20 = true)
    (hb : ¬ (bitAt w 7 = true ∧ bitAt w 4 = true)) : decodeArm w = .ok (decodeDpReg c w) := by
  have hx : w.extractLsb' 4 24 ≠ 0x12FFF1#24 := fun hx => by
    have h20 : bitAt w 20 = false := bit_in_field hx 16
    exact Bool.noConfusion (h20.symm.trans hs)
  have hm : w.extractLsb' 4 4 ≠ 9#4 := fun hm => hb ⟨bit_in_field hm 3, bit_in_field hm 0⟩
  rw [body_of_cond hc, decodeArmBody, if_pos hf, decodeArm000, if_neg hx, if_neg hm, if_neg hb,
    if_neg fun h => Bool.noConfusion (hs.symm.trans h.2)]

theorem decodeArm_of_testShift {op : TestOp} (h : encode (.testShift op c rn rd amt ty rm) = .arm w) :
    decodeArm w = .ok (.testShift op c rn rd amt ty rm) := by
  obtain ⟨hc, ⟨hf, ht, hop, hs⟩, hn, hd, ha, hty, h4, hm⟩ := encode_testShift.mp h
  rw [decodeArm_testDpReg hc hf hs (by simp [h4])]
  simp [decodeDpReg, TestOp.ofBits_code, ShiftType.ofBits_bits, *]

theorem decodeArm_of_testReg {op : TestOp} (h : encode (.testReg op c rn rd rs ty rm) = .arm w) :
    decodeArm w = .ok (.testReg op c rn rd rs ty rm) := by
  obtain ⟨hc, ⟨hf, ht, hop, hs⟩, hn, hd, hr, h7, hty, h4, hm⟩ := encode_testReg.mp h
  rw [decodeArm_testDpReg hc hf hs (by simp [h7])]
  simp [decodeDpReg, TestOp.ofBits_code, ShiftType.ofBits_bits, *]

/-- A test opcode with S = 0 and bits 7:4 = 0000 is a status register transfer (30 R103). -/
theorem decodeArm_psrReg (hc : w.extractLsb' 28 4 = c.bits) (hf : w.extractLsb' 25 3 = 0#3)
    (ht : w.extractLsb' 23 2 = 2#2) (hs : bitAt w 20 = false) (h4 : w.extractLsb' 4 4 = 0#4) : decodeArm w = decodePsrReg c w := by
  have hb : bitAt w 4 = false := bit_in_field h4 0
  simp [body_of_cond hc, decodeArmBody, decodeArm000, not_bx_of_low h4, *]

theorem decodeArm_of_mrs (h : encode (.mrs c s rd) = .arm w) : decodeArm w = .ok (.mrs c s rd) := by
  obtain ⟨hc, ⟨hf, ht⟩, hs, hm, hd, hz⟩ := encode_mrs.mp h
  rw [decodeArm_psrReg hc hf ht (bit_in_field hm 4) (field_in_field hz 4 4)]
  simp [decodePsrReg, *]

theorem decodeArm_of_msrReg (h : encode (.msrReg c s rm) = .arm w) : decodeArm w = .ok (.msrReg c s rm) := by
  obtain ⟨hc, ⟨hf, ht⟩, hs, ⟨ho, hz⟩, hm⟩ := encode_msrReg.mp h
  have hr : w.extractLsb' 16 6 = 0x29#6 := field_in_field ho 4 6
  rw [decodeArm_psrReg hc hf ht (bit_in_field ho 8) (field_in_field hz 0 4)]
  simp [decodePsrReg, *]

theorem decodeArm_of_msrFlagsReg (h : encode (.msrFlagsReg c s rm) = .arm w) :
    decodeArm w = .ok (.msrFlagsReg c s rm) := by
  obtain ⟨hc, ⟨hf, ht⟩, hs, ⟨ho, hz⟩, hm⟩ := encode_msrFlagsReg.mp h
  have hr : w.extractLsb' 16 6 = 0x28#6 := field_in_field ho 4 6
  rw [decodeArm_psrReg hc hf ht (bit_in_field ho 8) (field_in_field hz 0 4)]
  simp [decodePsrReg, *]

/-- Bits 7:4 = 1001 under bits 27:25 = 000: the multiplies and swaps (30 R103). -/
theorem decodeArm_multiply (hc : w.extractLsb' 28 4 = c.bits) (hf : w.extractLsb' 25 3 = 0#3)
    (h9 : w.extractLsb' 4 4 = 9#4) : decodeArm w = decodeMultiply c w := by
  simp [body_of_cond hc, decodeArmBody, decodeArm000, hf, h9, not_bx_of_low h9]

theorem decodeArm_of_mul (h : encode (.mul c s rd rn rs rm) = .arm w) : decodeArm w = .ok (.mul c s rd rn rs rm) := by
  obtain ⟨hc, ⟨hf, hop, ha⟩, hs, hd, hn, hr, h9, hm⟩ := encode_mul.mp h
  rw [decodeArm_multiply hc hf h9]
  simp [decodeMultiply, *]

theorem decodeArm_of_mla (h : encode (.mla c s rd rn rs rm) = .arm w) : decodeArm w = .ok (.mla c s rd rn rs rm) := by
  obtain ⟨hc, ⟨hf, hop, ha⟩, hs, hd, hn, hr, h9, hm⟩ := encode_mla.mp h
  rw [decodeArm_multiply hc hf h9]
  simp [decodeMultiply, *]

theorem decodeArm_of_mulLong {op : LongOp} {hi lo : Reg} (h : encode (.mulLong op c s hi lo rs rm) = .arm w) :
    decodeArm w = .ok (.mulLong op c s hi lo rs rm) := by
  obtain ⟨hc, ⟨hf, ht, hop⟩, hs, hh, hl, hr, h9, hm⟩ := encode_mulLong.mp h
  have hz : w.extractLsb' 22 3 ≠ 0#3 := fun hz => by
    have : w.extractLsb' 23 2 = 0#2 := field_in_field hz 1 2
    exact absurd (ht.symm.trans this) (by decide)
  rw [decodeArm_multiply hc hf h9]
  simp [decodeMultiply, LongOp.ofBits_code, *]

/-- Bits 24:23 = 10 and bits 21:20 and 11:8 all 0: the swaps (30 R103). -/
theorem decodeMultiply_swap (ht : w.extractLsb' 23 2 = 2#2) (h20 : w.extractLsb' 20 2 = 0#2)
    (h8 : w.extractLsb' 8 4 = 0#4) : decodeMultiply c w =
      if bitAt w 22 = true then .ok (.swpb c (w.extractLsb' 16 4) (w.extractLsb' 12 4) (w.extractLsb' 0 4))
      else .ok (.swp c (w.extractLsb' 16 4) (w.extractLsb' 12 4) (w.extractLsb' 0 4)) := by
  have hz : w.extractLsb' 22 3 ≠ 0#3 := fun hz => by
    have : w.extractLsb' 23 2 = 0#2 := field_in_field hz 1 2
    exact absurd (ht.symm.trans this) (by decide)
  simp [decodeMultiply, *]

theorem decodeArm_of_swp (h : encode (.swp c rn rd rm) = .arm w) : decodeArm w = .ok (.swp c rn rd rm) := by
  obtain ⟨hc, ⟨hf, ht, hb, h20⟩, hn, hd, ⟨h8, h9⟩, hm⟩ := encode_swp.mp h
  simp [decodeArm_multiply hc hf h9, decodeMultiply_swap ht h20 h8, *]

theorem decodeArm_of_swpb (h : encode (.swpb c rn rd rm) = .arm w) : decodeArm w = .ok (.swpb c rn rd rm) := by
  obtain ⟨hc, ⟨hf, ht, hb, h20⟩, hn, hd, ⟨h8, h9⟩, hm⟩ := encode_swpb.mp h
  simp [decodeArm_multiply hc hf h9, decodeMultiply_swap ht h20 h8, *]

/-- Bits 7 and 4 set and bits 6:5 not 00: the halfword and signed transfers (30 R103). -/
theorem decodeArm_halfword (hc : w.extractLsb' 28 4 = c.bits) (hf : w.extractLsb' 25 3 = 0#3) (h7 : bitAt w 7 = true)
    (hsh : w.extractLsb' 5 2 ≠ 0#2) (h4 : bitAt w 4 = true) : decodeArm w = decodeHalfword c w := by
  have hx : w.extractLsb' 4 24 ≠ 0x12FFF1#24 := fun hx => by
    have h7' : bitAt w 7 = false := bit_in_field hx 3
    exact Bool.noConfusion (h7'.symm.trans h7)
  have hm : w.extractLsb' 4 4 ≠ 9#4 := fun hm => hsh (field_in_field hm 1 2)
  simp [body_of_cond hc, decodeArmBody, decodeArm000, *]

/-- The S and H bits are not both 0, and the S bit is clear in a store. -/
theorem HdtOp.sh_ne_zero (op : HdtOp) : op.sh ≠ 0#2 := by cases op <;> decide

theorem HdtOp.not_signedStore (op : HdtOp) : ¬ (op.l = false ∧ op.sh.getLsbD 1 = true) := by cases op <;> decide

theorem decodeArm_of_hdtReg {op : HdtOp} (h : encode (.hdtReg op c p u wb rn rd rm) = .arm w) :
    decodeArm w = .ok (.hdtReg op c p u wb rn rd rm) := by
  obtain ⟨hc, hf, hp, hu, h22, hw, hl, hn, hd, ⟨h8, h7, hsh, h4⟩, hm⟩ := encode_hdtReg.mp h
  have h6 : bitAt w 6 = op.sh.getLsbD 1 := bit_in_field hsh 1
  rw [decodeArm_halfword hc hf h7 (hsh ▸ op.sh_ne_zero) h4, decodeHalfword, if_neg (by simp [h22, h8]),
    if_neg (by rw [hl, h6]; exact op.not_signedStore), if_neg (by simp [h22]), hsh, hl, hp, hu, hw, hn, hd, hm,
    op.ofBits_code]

theorem decodeArm_of_hdtImm {op : HdtOp} {off : BitVec 8} (h : encode (.hdtImm op c p u wb rn rd off) = .arm w) :
    decodeArm w = .ok (.hdtImm op c p u wb rn rd off) := by
  obtain ⟨hc, hf, hp, hu, h22, hw, hl, hn, hd, h8, ⟨h7, hsh, h4⟩, h0⟩ := encode_hdtImm.mp h
  have h6 : bitAt w 6 = op.sh.getLsbD 1 := bit_in_field hsh 1
  have hoff : off.extractLsb' 4 4 ++ off.extractLsb' 0 4 = off :=
    (BitVec.extractLsb'_append_extractLsb'_eq_extractLsb' rfl).trans BitVec.extractLsb'_eq_self
  rw [decodeArm_halfword hc hf h7 (hsh ▸ op.sh_ne_zero) h4, decodeHalfword, if_neg (by simp [h22]),
    if_neg (by rw [hl, h6]; exact op.not_signedStore), if_pos h22, hsh, hl, hp, hu, hw, hn, hd, h8, h0, hoff,
    op.ofBits_code]

/-! ### Bits 27:25 = 010 and up -/

theorem decodeArm_of_sdtImmPre {op : SdtOp} {off : BitVec 12} (h : encode (.sdtImmPre op c u wb rn rd off) = .arm w) :
    decodeArm w = .ok (.sdtImmPre op c u wb rn rd off) := by
  obtain ⟨hc, ⟨hf, h24⟩, hu, hb, hw, hl, hn, hd, ho⟩ := encode_sdtImmPre.mp h
  simp [body_of_cond hc, decodeArmBody, decodeSdtImm, sdtBits_eq_iff.mpr ⟨hb, hl⟩, *]

theorem decodeArm_of_sdtImmPost {op : SdtOp} {off : BitVec 12} (h : encode (.sdtImmPost op c u rn rd off) = .arm w) :
    decodeArm w = .ok (.sdtImmPost op c u rn rd off) := by
  obtain ⟨hc, ⟨hf, h24⟩, hu, ⟨hb, h21, hl⟩, hn, hd, ho⟩ := encode_sdtImmPost.mp h
  simp [body_of_cond hc, decodeArmBody, decodeSdtImm, sdtBits_eq_iff.mpr ⟨hb, hl⟩, *]

theorem decodeArm_of_sdtTImm {op : SdtOp} {off : BitVec 12} (h : encode (.sdtTImm op c u rn rd off) = .arm w) :
    decodeArm w = .ok (.sdtTImm op c u rn rd off) := by
  obtain ⟨hc, ⟨hf, h24⟩, hu, ⟨hb, h21, hl⟩, hn, hd, ho⟩ := encode_sdtTImm.mp h
  simp [body_of_cond hc, decodeArmBody, decodeSdtImm, sdtBits_eq_iff.mpr ⟨hb, hl⟩, *]

theorem decodeArm_of_sdtRegPre {op : SdtOp} (h : encode (.sdtRegPre op c u wb rn rd amt ty rm) = .arm w) :
    decodeArm w = .ok (.sdtRegPre op c u wb rn rd amt ty rm) := by
  obtain ⟨hc, ⟨hf, h24⟩, hu, hb, hw, hl, hn, hd, ha, hty, h4, hm⟩ := encode_sdtRegPre.mp h
  simp [body_of_cond hc, decodeArmBody, decodeSdtReg, sdtBits_eq_iff.mpr ⟨hb, hl⟩, ShiftType.ofBits_bits, *]

theorem decodeArm_of_sdtRegPost {op : SdtOp} (h : encode (.sdtRegPost op c u rn rd amt ty rm) = .arm w) :
    decodeArm w = .ok (.sdtRegPost op c u rn rd amt ty rm) := by
  obtain ⟨hc, ⟨hf, h24⟩, hu, ⟨hb, h21, hl⟩, hn, hd, ha, hty, h4, hm⟩ := encode_sdtRegPost.mp h
  simp [body_of_cond hc, decodeArmBody, decodeSdtReg, sdtBits_eq_iff.mpr ⟨hb, hl⟩, ShiftType.ofBits_bits, *]

theorem decodeArm_of_sdtTReg {op : SdtOp} (h : encode (.sdtTReg op c u rn rd amt ty rm) = .arm w) :
    decodeArm w = .ok (.sdtTReg op c u rn rd amt ty rm) := by
  obtain ⟨hc, ⟨hf, h24⟩, hu, ⟨hb, h21, hl⟩, hn, hd, ha, hty, h4, hm⟩ := encode_sdtTReg.mp h
  simp [body_of_cond hc, decodeArmBody, decodeSdtReg, sdtBits_eq_iff.mpr ⟨hb, hl⟩, ShiftType.ofBits_bits, *]

theorem decodeArm_of_undef {x : BitVec 20} {y : BitVec 4} (h : encode (.undef c x y) = .arm w) :
    decodeArm w = .ok (.undef c x y) := by
  obtain ⟨hc, hf, hx, h4, hy⟩ := encode_undef.mp h
  simp [body_of_cond hc, decodeArmBody, decodeSdtReg, *]

theorem decodeArm_of_stm {list : BitVec 16} (h : encode (.stm c p u s wb rn list) = .arm w) :
    decodeArm w = .ok (.stm c p u s wb rn list) := by
  obtain ⟨hc, hf, hp, hu, hs, hw, hl, hn, hr⟩ := encode_stm.mp h
  simp [body_of_cond hc, decodeArmBody, *]

theorem decodeArm_of_ldm {list : BitVec 16} (h : encode (.ldm c p u s wb rn list) = .arm w) :
    decodeArm w = .ok (.ldm c p u s wb rn list) := by
  obtain ⟨hc, hf, hp, hu, hs, hw, hl, hn, hr⟩ := encode_ldm.mp h
  simp [body_of_cond hc, decodeArmBody, *]

theorem decodeArm_of_stc {crd cp : BitVec 4} {off : BitVec 8} (h : encode (.stc c p u s wb rn crd cp off) = .arm w) :
    decodeArm w = .ok (.stc c p u s wb rn crd cp off) := by
  obtain ⟨hc, hf, hp, hu, hs, hw, hl, hn, hd, hcp, ho⟩ := encode_stc.mp h
  simp [body_of_cond hc, decodeArmBody, *]

theorem decodeArm_of_ldc {crd cp : BitVec 4} {off : BitVec 8} (h : encode (.ldc c p u s wb rn crd cp off) = .arm w) :
    decodeArm w = .ok (.ldc c p u s wb rn crd cp off) := by
  obtain ⟨hc, hf, hp, hu, hs, hw, hl, hn, hd, hcp, ho⟩ := encode_ldc.mp h
  simp [body_of_cond hc, decodeArmBody, *]

theorem decodeArm_of_cdp {opc crn crd cp crm : BitVec 4} {info : BitVec 3}
    (h : encode (.cdp c opc crn crd cp info crm) = .arm w) : decodeArm w = .ok (.cdp c opc crn crd cp info crm) := by
  obtain ⟨hc, ⟨hf, h24⟩, ho, hn, hd, hcp, hi, h4, hm⟩ := encode_cdp.mp h
  simp [body_of_cond hc, decodeArmBody, decodeArm111, *]

theorem decodeArm_of_mcr {opc info : BitVec 3} {crn cp crm : BitVec 4}
    (h : encode (.mcr c opc crn rd cp info crm) = .arm w) : decodeArm w = .ok (.mcr c opc crn rd cp info crm) := by
  obtain ⟨hc, ⟨hf, h24⟩, ho, hl, hn, hd, hcp, hi, h4, hm⟩ := encode_mcr.mp h
  simp [body_of_cond hc, decodeArmBody, decodeArm111, *]

theorem decodeArm_of_mrc {opc info : BitVec 3} {crn cp crm : BitVec 4}
    (h : encode (.mrc c opc crn rd cp info crm) = .arm w) : decodeArm w = .ok (.mrc c opc crn rd cp info crm) := by
  obtain ⟨hc, ⟨hf, h24⟩, ho, hl, hn, hd, hcp, hi, h4, hm⟩ := encode_mrc.mp h
  simp [body_of_cond hc, decodeArmBody, decodeArm111, *]

theorem decodeArm_of_swi {k : BitVec 24} (h : encode (.swi c k) = .arm w) : decodeArm w = .ok (.swi c k) := by
  obtain ⟨hc, ⟨hf, h24⟩, hk⟩ := encode_swi.mp h
  rw [decodeArm_swi (hc ▸ c.ofBits_bits) hf h24, hk]

end
end Sys2Proof
end

section
/-! The ARM encoder on a decoded word: each branch of the decoder has read the fields that its encoding is made of (30 R103). -/

namespace Sys2Proof

-- Elaborated one after the other: side by side, the threads of one large text pass the memory of the check.
set_option Elab.async false

/-! ### The operation of a field, back to the field -/

theorem Cond.bits_of_ofBits {b : BitVec 4} {c : Cond} (h : Cond.ofBits b = some c) : c.bits = b := by
  revert b c; decide

theorem ShiftType.bits_ofBits (b : BitVec 2) : (ShiftType.ofBits b).bits = b := by revert b; decide
theorem AluOp.code_ofBits {b : BitVec 4} (h : b.extractLsb' 2 2 ≠ 2#2) : (AluOp.ofBits b).code = b := by
  revert b; decide
theorem TestOp.code_ofBits (b : BitVec 2) : (TestOp.ofBits b).code = b := by revert b; decide
theorem LongOp.code_ofBits (b : BitVec 2) : (LongOp.ofBits b).code = b := by revert b; decide
theorem HdtOp.sh_ofBits {b : BitVec 2} {l : Bool} (h0 : b ≠ 0#2) (hs : ¬ (l = false ∧ b.getLsbD 1 = true)) :
    (HdtOp.ofBits b l).sh = b ∧ (HdtOp.ofBits b l).l = l := by revert b l; decide

/-- A field of three bits that is none of the lower seven values is 111, -/
theorem field3_eq_seven {b : BitVec 3} (h0 : b ≠ 0#3) (h1 : b ≠ 1#3) (h2 : b ≠ 2#3) (h3 : b ≠ 3#3) (h4 : b ≠ 4#3)
    (h5 : b ≠ 5#3) (h6 : b ≠ 6#3) : b = 7#3 := by
  bv_omega

/-- and a field of two bits that is none of the lower three is 11. -/
theorem field2_eq_three {b : BitVec 2} (h0 : b ≠ 0#2) (h1 : b ≠ 1#2) (h2 : b ≠ 2#2) : b = 3#2 := by
  revert b; decide

/-! ### The decoder, function by function -/

section

variable {w : BitVec 32} {c : Cond} (hc : w.extractLsb' 28 4 = c.bits)
include hc

theorem encode_decodeDpImm (hf : w.extractLsb' 25 3 = 1#3) (hp : ¬ (w.extractLsb' 23 2 = 2#2 ∧ bitAt w 20 = false)) :
    encode (decodeDpImm c w) = .arm w := by
  unfold decodeDpImm
  split
  next ht =>
    have hs : bitAt w 20 = true := Bool.eq_true_of_not_eq_false fun hs => hp ⟨ht, hs⟩
    exact encode_testImm.mpr ⟨hc, ⟨hf, ht, (TestOp.code_ofBits _).symm, hs⟩, rfl, rfl, rfl, rfl⟩
  next ht =>
    have hop := AluOp.code_ofBits (b := w.extractLsb' 21 4) fun h => ht ((field_in_field rfl 2 2).trans h)
    exact encode_aluImm.mpr ⟨hc, ⟨hf, hop.symm⟩, rfl, rfl, rfl, rfl, rfl⟩


theorem encode_decodeDpReg (hf : w.extractLsb' 25 3 = 0#3) (hb : ¬ (bitAt w 7 = true ∧ bitAt w 4 = true))
    (hp : ¬ (w.extractLsb' 23 2 = 2#2 ∧ bitAt w 20 = false)) : encode (decodeDpReg c w) = .arm w := by
  have hs (ht : w.extractLsb' 23 2 = 2#2) : bitAt w 20 = true := Bool.eq_true_of_not_eq_false fun hs => hp ⟨ht, hs⟩
  have hop (ht : w.extractLsb' 23 2 ≠ 2#2) := AluOp.code_ofBits (b := w.extractLsb' 21 4) fun h =>
    ht ((field_in_field rfl 2 2).trans h)
  unfold decodeDpReg
  split
  next h4 =>
    have h7 : bitAt w 7 = false := Bool.eq_false_of_not_eq_true fun h7 => hb ⟨h7, h4⟩
    split
    next ht =>
      exact encode_testReg.mpr ⟨hc, ⟨hf, ht, (TestOp.code_ofBits _).symm, hs ht⟩, rfl, rfl, rfl, h7,
        (ShiftType.bits_ofBits _).symm, h4, rfl⟩
    next ht =>
      exact encode_aluReg.mpr ⟨hc, ⟨hf, (hop ht).symm⟩, rfl, rfl, rfl, rfl, h7, (ShiftType.bits_ofBits _).symm, h4, rfl⟩
  next h4 =>
    have h4 : bitAt w 4 = false := Bool.eq_false_of_not_eq_true h4
    split
    next ht =>
      exact encode_testShift.mpr ⟨hc, ⟨hf, ht, (TestOp.code_ofBits _).symm, hs ht⟩, rfl, rfl, rfl,
        (ShiftType.bits_ofBits _).symm, h4, rfl⟩
    next ht =>
      exact encode_aluShift.mpr ⟨hc, ⟨hf, (hop ht).symm⟩, rfl, rfl, rfl, rfl, (ShiftType.bits_ofBits _).symm, h4, rfl⟩

theorem encode_of_decodeMultiply {i : Instr} (hf : w.extractLsb' 25 3 = 0#3) (h9 : w.extractLsb' 4 4 = 9#4)
    (h : decodeMultiply c w = .ok i) : encode i = .arm w := by
  unfold decodeMultiply at h
  split at h
  next hop =>
    split at h <;> obtain rfl := Decoded.ok.inj h
    next ha => exact encode_mla.mpr ⟨hc, ⟨hf, hop, ha⟩, rfl, rfl, rfl, rfl, h9, rfl⟩
    next ha => exact encode_mul.mpr ⟨hc, ⟨hf, hop, Bool.eq_false_of_not_eq_true ha⟩, rfl, rfl, rfl, rfl, h9, rfl⟩
  next =>
    split at h
    next ht =>
      obtain rfl := Decoded.ok.inj h
      exact encode_mulLong.mpr ⟨hc, ⟨hf, ht, (LongOp.code_ofBits _).symm⟩, rfl, rfl, rfl, rfl, h9, rfl⟩
    next =>
      split at h
      next ht =>
        split at h
        next hz =>
          obtain ⟨h20, h8⟩ := hz
          split at h <;> obtain rfl := Decoded.ok.inj h
          next hb => exact encode_swpb.mpr ⟨hc, ⟨hf, ht, hb, h20⟩, rfl, rfl, ⟨h8, h9⟩, rfl⟩
          next hb =>
            exact encode_swp.mpr ⟨hc, ⟨hf, ht, Bool.eq_false_of_not_eq_true hb, h20⟩, rfl, rfl, ⟨h8, h9⟩, rfl⟩
        next => cases h
      next => split at h <;> cases h

theorem encode_of_decodeHalfword {i : Instr} (hf : w.extractLsb' 25 3 = 0#3) (h7 : bitAt w 7 = true)
    (h4 : bitAt w 4 = true) (h9 : w.extractLsb' 4 4 ≠ 9#4) (h : decodeHalfword c w = .ok i) : encode i = .arm w := by
  have hsh : w.extractLsb' 5 2 ≠ 0#2 := fun hz => h9 <| Eq.symm <|
    (read_fields (x := BitVec.ofBool true) (y := 0#2 ++ BitVec.ofBool true) read_bit (read_fields read_field read_bit)).mpr
      ⟨h7, hz, h4⟩
  unfold decodeHalfword at h
  split at h
  next => cases h
  next h8 =>
    split at h
    next => cases h
    next hs =>
      have hop := HdtOp.sh_ofBits hsh (l := bitAt w 20) (by rwa [← bit_in_field (s := 5) rfl 1])
      split at h <;> obtain rfl := Decoded.ok.inj h
      next h22 =>
        refine encode_hdtImm.mpr ⟨hc, hf, rfl, rfl, h22, rfl, hop.2.symm, rfl, rfl, ?_, ⟨h7, hop.1.symm, h4⟩, ?_⟩
        · rw [BitVec.extractLsb'_append_eq_left]
        · rw [BitVec.extractLsb'_append_eq_right]
      next h22 =>
        have h22 : bitAt w 22 = false := Bool.eq_false_of_not_eq_true h22
        have h8 : w.extractLsb' 8 4 = 0#4 := by_contra fun hne => h8 ⟨h22, hne⟩
        exact encode_hdtReg.mpr ⟨hc, hf, rfl, rfl, h22, rfl, hop.2.symm, rfl, rfl, ⟨h8, h7, hop.1.symm, h4⟩, rfl⟩

theorem encode_of_decodePsrReg {i : Instr} (hf : w.extractLsb' 25 3 = 0#3) (ht : w.extractLsb' 23 2 = 2#2)
    (h : decodePsrReg c w = .ok i) : encode i = .arm w := by
  unfold decodePsrReg at h
  split at h
  next hz =>
    obtain rfl := Decoded.ok.inj h
    exact encode_mrs.mpr ⟨hc, ⟨hf, ht⟩, rfl, hz.1, rfl, hz.2⟩
  next =>
    split at h
    next hz =>
      obtain rfl := Decoded.ok.inj h
      exact encode_msrReg.mpr ⟨hc, ⟨hf, ht⟩, rfl, hz, rfl⟩
    next =>
      split at h
      next hz =>
        obtain rfl := Decoded.ok.inj h
        exact encode_msrFlagsReg.mpr ⟨hc, ⟨hf, ht⟩, rfl, hz, rfl⟩
      next => cases h

theorem encode_of_decodeArm000 {i : Instr} (hf : w.extractLsb' 25 3 = 0#3) (h : decodeArm000 c w = .ok i) :
    encode i = .arm w := by
  unfold decodeArm000 at h
  split at h
  next hx =>
    obtain rfl := Decoded.ok.inj h
    exact encode_bx.mpr ⟨hc, hx, rfl⟩
  next =>
    split at h
    next h9 => exact encode_of_decodeMultiply hc hf h9 h
    next h9 =>
      split at h
      next hb => exact encode_of_decodeHalfword hc hf hb.1 hb.2 h9 h
      next hb =>
        split at h
        next hp => exact encode_of_decodePsrReg hc hf hp.1 h
        next hp =>
          obtain rfl := Decoded.ok.inj h
          exact encode_decodeDpReg hc hf hb hp

theorem encode_of_decodeArm001 {i : Instr} (hf : w.extractLsb' 25 3 = 1#3) (h : decodeArm001 c w = .ok i) :
    encode i = .arm w := by
  unfold decodeArm001 at h
  split at h
  next hp =>
    split at h
    next hm =>
      obtain rfl := Decoded.ok.inj h
      exact encode_msrFlagsImm.mpr ⟨hc, ⟨hf, hp.1⟩, rfl, hm, rfl, rfl⟩
    next => cases h
  next hp =>
    obtain rfl := Decoded.ok.inj h
    exact encode_decodeDpImm hc hf hp

theorem encode_decodeSdtImm (hf : w.extractLsb' 25 3 = 2#3) : encode (decodeSdtImm c w) = .arm w := by
  obtain ⟨hb, hl⟩ := sdtBits_eq_iff.mp (rfl : sdtBits w = sdtBits w)
  unfold decodeSdtImm
  split
  next hp => exact encode_sdtImmPre.mpr ⟨hc, ⟨hf, hp⟩, rfl, hb, rfl, hl, rfl, rfl, rfl⟩
  next hp =>
    have hp : bitAt w 24 = false := Bool.eq_false_of_not_eq_true hp
    split
    next hw => exact encode_sdtTImm.mpr ⟨hc, ⟨hf, hp⟩, rfl, ⟨hb, hw, hl⟩, rfl, rfl, rfl⟩
    next hw =>
      exact encode_sdtImmPost.mpr ⟨hc, ⟨hf, hp⟩, rfl, ⟨hb, Bool.eq_false_of_not_eq_true hw, hl⟩, rfl, rfl, rfl⟩

theorem encode_decodeSdtReg (hf : w.extractLsb' 25 3 = 3#3) : encode (decodeSdtReg c w) = .arm w := by
  obtain ⟨hb, hl⟩ := sdtBits_eq_iff.mp (rfl : sdtBits w = sdtBits w)
  have hty := (ShiftType.bits_ofBits (w.extractLsb' 5 2)).symm
  unfold decodeSdtReg
  split
  next h4 => exact encode_undef.mpr ⟨hc, hf, rfl, h4, rfl⟩
  next h4 =>
    have h4 : bitAt w 4 = false := Bool.eq_false_of_not_eq_true h4
    split
    next hp => exact encode_sdtRegPre.mpr ⟨hc, ⟨hf, hp⟩, rfl, hb, rfl, hl, rfl, rfl, rfl, hty, h4, rfl⟩
    next hp =>
      have hp : bitAt w 24 = false := Bool.eq_false_of_not_eq_true hp
      split
      next hw => exact encode_sdtTReg.mpr ⟨hc, ⟨hf, hp⟩, rfl, ⟨hb, hw, hl⟩, rfl, rfl, rfl, hty, h4, rfl⟩
      next hw =>
        have hw : bitAt w 21 = false := Bool.eq_false_of_not_eq_true hw
        exact encode_sdtRegPost.mpr ⟨hc, ⟨hf, hp⟩, rfl, ⟨hb, hw, hl⟩, rfl, rfl, rfl, hty, h4, rfl⟩

theorem encode_decodeArm111 (hf : w.extractLsb' 25 3 = 7#3) : encode (decodeArm111 c w) = .arm w := by
  unfold decodeArm111
  split
  next h24 => exact encode_swi.mpr ⟨hc, ⟨hf, h24⟩, rfl⟩
  next h24 =>
    have h24 : bitAt w 24 = false := Bool.eq_false_of_not_eq_true h24
    split
    next h4 => exact encode_cdp.mpr ⟨hc, ⟨hf, h24⟩, rfl, rfl, rfl, rfl, rfl, h4, rfl⟩
    next h4 =>
      have h4 : bitAt w 4 = true := Bool.eq_true_of_not_eq_false h4
      split
      next hl => exact encode_mrc.mpr ⟨hc, ⟨hf, h24⟩, rfl, hl, rfl, rfl, rfl, rfl, h4, rfl⟩
      next hl =>
        exact encode_mcr.mpr ⟨hc, ⟨hf, h24⟩, rfl, Bool.eq_false_of_not_eq_true hl, rfl, rfl, rfl, rfl, h4, rfl⟩

theorem encode_of_decodeArmBody {i : Instr} (h : decodeArmBody c w = .ok i) : encode i = .arm w := by
  unfold decodeArmBody at h
  split at h
  next hf => exact encode_of_decodeArm000 hc hf h
  next h0 =>
  split at h
  next hf => exact encode_of_decodeArm001 hc hf h
  next h1 =>
  split at h
  next hf => exact Decoded.ok.inj h ▸ encode_decodeSdtImm hc hf
  next h2 =>
  split at h
  next hf => exact Decoded.ok.inj h ▸ encode_decodeSdtReg hc hf
  next h3 =>
  split at h
  next hf =>
    split at h <;> obtain rfl := Decoded.ok.inj h
    next hl => exact encode_ldm.mpr ⟨hc, hf, rfl, rfl, rfl, rfl, hl, rfl, rfl⟩
    next hl => exact encode_stm.mpr ⟨hc, hf, rfl, rfl, rfl, rfl, Bool.eq_false_of_not_eq_true hl, rfl, rfl⟩
  next h4 =>
  split at h
  next hf =>
    split at h <;> obtain rfl := Decoded.ok.inj h
    next hl => exact encode_bl.mpr ⟨hc, ⟨hf, hl⟩, rfl⟩
    next hl => exact encode_b.mpr ⟨hc, ⟨hf, Bool.eq_false_of_not_eq_true hl⟩, rfl⟩
  next h5 =>
  split at h
  next hf =>
    split at h <;> obtain rfl := Decoded.ok.inj h
    next hl => exact encode_ldc.mpr ⟨hc, hf, rfl, rfl, rfl, rfl, hl, rfl, rfl, rfl, rfl⟩
    next hl => exact encode_stc.mpr ⟨hc, hf, rfl, rfl, rfl, rfl, Bool.eq_false_of_not_eq_true hl, rfl, rfl, rfl, rfl⟩
  next h6 => exact Decoded.ok.inj h ▸ encode_decodeArm111 hc (field3_eq_seven h0 h1 h2 h3 h4 h5 h6)

omit hc in
/-- An ARM word that decodes is the encoding of its instruction. -/
theorem encode_of_decodeArm {i : Instr} (h : decodeArm w = .ok i) : encode i = .arm w := by
  unfold decodeArm at h
  split at h
  next => cases h
  next c hc => exact encode_of_decodeArmBody (Cond.bits_of_ofBits hc).symm h

end
end Sys2Proof
end

section
/-! O1 and O2: the decoder and the encoder are inverse to each other, in both instruction sets (30 R103, R121). -/

namespace Sys2Proof

-- Elaborated one after the other: side by side, the threads of one large text pass the memory of the check.
set_option Elab.async false

/-! ### The shapes of the THUMB encodings -/

section

variable {h : BitVec 16}

theorem half_off5 {op x : BitVec 5} {y z : LoReg} : op ++ (x ++ (y ++ z)) = h ↔
    h.extractLsb' 11 5 = op ∧ h.extractLsb' 6 5 = x ∧ h.extractLsb' 3 3 = y ∧ h.extractLsb' 0 3 = z :=
  read_word read_field <| field_then <| field_then read_field

theorem half_reg3 {op : BitVec 7} {x y z : LoReg} : op ++ (x ++ (y ++ z)) = h ↔
    h.extractLsb' 9 7 = op ∧ h.extractLsb' 6 3 = x ∧ h.extractLsb' 3 3 = y ∧ h.extractLsb' 0 3 = z :=
  read_word read_field <| field_then <| field_then read_field

theorem half_imm8 {op : BitVec 5} {x : LoReg} {y : BitVec 8} : op ++ (x ++ y) = h ↔
    h.extractLsb' 11 5 = op ∧ h.extractLsb' 8 3 = x ∧ h.extractLsb' 0 8 = y :=
  read_word read_field <| field_then read_field

theorem half_reg2 {op : BitVec 10} {x y : LoReg} : op ++ (x ++ y) = h ↔
    h.extractLsb' 6 10 = op ∧ h.extractLsb' 3 3 = x ∧ h.extractLsb' 0 3 = y :=
  read_word read_field <| field_then read_field

theorem half_bxH1 {op : BitVec 9} {b : Bool} {x y : LoReg} : op ++ (BitVec.ofBool b ++ (x ++ y)) = h ↔
    h.extractLsb' 7 9 = op ∧ bitAt h 6 = b ∧ h.extractLsb' 3 3 = x ∧ h.extractLsb' 0 3 = y :=
  read_word read_field <| bit_then <| field_then read_field

theorem half_one {m n : Nat} {h : BitVec (m + n)} {op : BitVec m} {x : BitVec n} :
    op ++ x = h ↔ h.extractLsb' n m = op ∧ h.extractLsb' 0 n = x :=
  read_word read_field read_field

/-! ### Decoding an encoding, shape by shape -/

theorem roundtrip_off5 {op : BitVec 5} {f : BitVec 5 → LoReg → LoReg → Instr} (x : BitVec 5) (y z : LoReg)
    (he : encode (f x y z) = .thumb (op ++ (x ++ (y ++ z))))
    (hd : ∀ h : BitVec 16, h.extractLsb' 11 5 = op →
      decodeThumb h = .ok (f (h.extractLsb' 6 5) (h.extractLsb' 3 3) (h.extractLsb' 0 3))) :
    decode (encode (f x y z)) = .ok (f x y z) := by
  obtain ⟨hop, hx, hy, hz⟩ := half_off5.mp (rfl : op ++ (x ++ (y ++ z)) = _)
  rw [he, decode, hd _ hop, hx, hy, hz]

theorem roundtrip_reg3 {op : BitVec 7} {f : LoReg → LoReg → LoReg → Instr} (x y z : LoReg)
    (he : encode (f x y z) = .thumb (op ++ (x ++ (y ++ z))))
    (hd : ∀ h : BitVec 16, h.extractLsb' 9 7 = op →
      decodeThumb h = .ok (f (h.extractLsb' 6 3) (h.extractLsb' 3 3) (h.extractLsb' 0 3))) :
    decode (encode (f x y z)) = .ok (f x y z) := by
  obtain ⟨hop, hx, hy, hz⟩ := half_reg3.mp (rfl : op ++ (x ++ (y ++ z)) = _)
  rw [he, decode, hd _ hop, hx, hy, hz]

theorem roundtrip_imm8 {op : BitVec 5} {f : LoReg → BitVec 8 → Instr} (x : LoReg) (y : BitVec 8)
    (he : encode (f x y) = .thumb (op ++ (x ++ y)))
    (hd : ∀ h : BitVec 16, h.extractLsb' 11 5 = op → decodeThumb h = .ok (f (h.extractLsb' 8 3) (h.extractLsb' 0 8))) :
    decode (encode (f x y)) = .ok (f x y) := by
  obtain ⟨hop, hx, hy⟩ := half_imm8.mp (rfl : op ++ (x ++ y) = _)
  rw [he, decode, hd _ hop, hx, hy]

theorem roundtrip_reg2 {op : BitVec 10} {f : LoReg → LoReg → Instr} (x y : LoReg)
    (he : encode (f x y) = .thumb (op ++ (x ++ y)))
    (hd : ∀ h : BitVec 16, h.extractLsb' 6 10 = op → decodeThumb h = .ok (f (h.extractLsb' 3 3) (h.extractLsb' 0 3))) :
    decode (encode (f x y)) = .ok (f x y) := by
  obtain ⟨hop, hx, hy⟩ := half_reg2.mp (rfl : op ++ (x ++ y) = _)
  rw [he, decode, hd _ hop, hx, hy]

theorem roundtrip_one {m n : Nat} {op : BitVec m} {f : BitVec n → Instr} (hmn : m + n = 16) (x : BitVec n)
    (he : encode (f x) = .thumb ((op ++ x).cast hmn))
    (hd : ∀ h : BitVec 16, h.extractLsb' n m = op → decodeThumb h = .ok (f (h.extractLsb' 0 n))) :
    decode (encode (f x)) = .ok (f x) := by
  obtain ⟨hop, hx⟩ := half_one.mp (rfl : op ++ x = _)
  have hop' : ((op ++ x).cast hmn).extractLsb' n m = op := hop
  have hx' : ((op ++ x).cast hmn).extractLsb' 0 n = x := hx
  rw [he, decode, hd _ hop', hx']

/-! ### What the decoder looks at, by the bits above the operands -/

theorem top_of_op5 {op : BitVec 5} (hop : h.extractLsb' 11 5 = op) :
    h.extractLsb' 13 3 = op.extractLsb' 2 3 ∧ h.extractLsb' 11 2 = op.extractLsb' 0 2 :=
  ⟨field_in_field hop 2 3, field_in_field hop 0 2⟩

theorem top_of_op7 {op : BitVec 7} (hop : h.extractLsb' 9 7 = op) :
    h.extractLsb' 13 3 = op.extractLsb' 4 3 ∧ h.extractLsb' 11 2 = op.extractLsb' 2 2 ∧
      h.extractLsb' 10 3 = op.extractLsb' 1 3 ∧ h.extractLsb' 9 3 = op.extractLsb' 0 3 ∧
      h.extractLsb' 9 2 = op.extractLsb' 0 2 :=
  ⟨field_in_field hop 4 3, field_in_field hop 2 2, field_in_field hop 1 3, field_in_field hop 0 3, field_in_field hop 0 2⟩

theorem top_of_op8 {op : BitVec 8} (hop : h.extractLsb' 8 8 = op) :
    h.extractLsb' 13 3 = op.extractLsb' 5 3 ∧ h.extractLsb' 11 2 = op.extractLsb' 3 2 ∧
      h.extractLsb' 8 4 = op.extractLsb' 0 4 :=
  ⟨field_in_field hop 5 3, field_in_field hop 3 2, field_in_field hop 0 4⟩

theorem top_of_op10 {op : BitVec 10} (hop : h.extractLsb' 6 10 = op) :
    h.extractLsb' 13 3 = op.extractLsb' 7 3 ∧ h.extractLsb' 10 3 = op.extractLsb' 4 3 ∧
      h.extractLsb' 8 2 = op.extractLsb' 2 2 ∧ h.extractLsb' 6 4 = op.extractLsb' 0 4 ∧
      h.extractLsb' 6 2 = op.extractLsb' 0 2 ∧ bitAt h 7 = op.getLsbD 1 ∧ bitAt h 6 = op.getLsbD 0 :=
  ⟨field_in_field hop 7 3, field_in_field hop 4 3, field_in_field hop 2 2, field_in_field hop 0 4,
    field_in_field hop 0 2, bit_in_field hop 1, bit_in_field hop 0⟩

/-- Formats 13 and 14 and the sets beside them: bits 15:12 = 1011 (30 R121). -/
theorem decodeThumb_misc (hop : h.extractLsb' 12 4 = 0b1011#4) : decodeThumb h = .ok (decodeThumb101 h) ∧
    h.extractLsb' 11 2 ≠ 0#2 ∧ h.extractLsb' 11 2 ≠ 1#2 := by
  have hf : h.extractLsb' 13 3 = 5#3 := field_in_field hop 1 3
  have h12 : bitAt h 12 = true := bit_in_field hop 0
  have h11 {v : BitVec 2} (hv : h.extractLsb' 11 2 = v) : bitAt h 12 = v.getLsbD 1 := bit_in_field hv 1
  exact ⟨by simp [decodeThumb, hf], fun hv => by simp [h11 hv] at h12, fun hv => by simp [h11 hv] at h12⟩

/-- Above bits 11:8 = 0000 nothing moves SP. -/
theorem not_addSp (h8 : h.extractLsb' 8 4 ≠ 0#4) : h.extractLsb' 7 5 ≠ 0#5 ∧ h.extractLsb' 7 5 ≠ 1#5 :=
  ⟨fun hv => h8 (field_in_field hv 1 4), fun hv => h8 (field_in_field hv 1 4)⟩

end

/-- BX with H1 = 1 keeps H2 and the other ignored bits (47 R352). -/
theorem decode_encode_tBxH1 (b : Bool) (x y : LoReg) : decode (encode (.tBxH1 b x y)) = .ok (.tBxH1 b x y) := by
  obtain ⟨hop, hb, hx, hy⟩ := half_bxH1.mp (rfl : 0b010001111#9 ++ (BitVec.ofBool b ++ (x ++ y)) = _)
  have h := decodeThumb_bxH1 (field_in_field hop 6 3) (field_in_field hop 3 3) (field_in_field hop 1 2)
    (bit_in_field hop 0)
  rw [hb, hx, hy] at h
  exact h

theorem decodeThumb_undefB2 {h : BitVec 16} (hop : h.extractLsb' 9 7 = 0b1011001#7) :
    decodeThumb h = .ok (.tUndefB2 (h.extractLsb' 0 9)) := by
  obtain ⟨hd, h0, h1⟩ := decodeThumb_misc (field_in_field hop 3 4)
  have h9 : h.extractLsb' 9 3 = 1#3 := field_in_field hop 0 3
  have h8 (v : BitVec 4) (hv : v.extractLsb' 1 3 ≠ 1#3) : h.extractLsb' 8 4 ≠ v := fun e =>
    hv ((field_in_field e 1 3).symm.trans h9)
  obtain ⟨hs0, hs1⟩ := not_addSp (h8 0#4 (by decide))
  rw [hd, decodeThumb101, if_neg h0, if_neg h1, if_neg hs0, if_neg hs1, if_neg (h8 _ (by decide)),
    if_neg (h8 _ (by decide)), if_neg (h8 _ (by decide)), if_neg (h8 _ (by decide)), if_neg (h8 _ (by decide)), if_pos h9]

theorem decodeThumb_undefB6 {h : BitVec 16} (hop : h.extractLsb' 9 7 = 0b1011011#7) :
    decodeThumb h = .ok (.tUndefB6 (h.extractLsb' 0 9)) := by
  obtain ⟨hd, h0, h1⟩ := decodeThumb_misc (field_in_field hop 3 4)
  have h9 : h.extractLsb' 9 3 = 3#3 := field_in_field hop 0 3
  have h8 (v : BitVec 4) (hv : v.extractLsb' 1 3 ≠ 3#3) : h.extractLsb' 8 4 ≠ v := fun e =>
    hv ((field_in_field e 1 3).symm.trans h9)
  obtain ⟨hs0, hs1⟩ := not_addSp (h8 0#4 (by decide))
  rw [hd, decodeThumb101, if_neg h0, if_neg h1, if_neg hs0, if_neg hs1, if_neg (h8 _ (by decide)),
    if_neg (h8 _ (by decide)), if_neg (h8 _ (by decide)), if_neg (h8 _ (by decide)), if_neg (h8 _ (by decide)),
    if_neg (by rw [h9]; decide), if_pos h9]

theorem decodeThumb_undefB8 {h : BitVec 16} (hop : h.extractLsb' 10 6 = 0b101110#6) :
    decodeThumb h = .ok (.tUndefB8 (h.extractLsb' 0 10)) := by
  obtain ⟨hd, h0, h1⟩ := decodeThumb_misc (field_in_field hop 2 4)
  have h10 : h.extractLsb' 10 2 = 2#2 := field_in_field hop 0 2
  have h9 (v : BitVec 3) (hv : v.extractLsb' 1 2 ≠ 2#2) : h.extractLsb' 9 3 ≠ v := fun e =>
    hv ((field_in_field e 1 2).symm.trans h10)
  have h8 (v : BitVec 4) (hv : v.extractLsb' 2 2 ≠ 2#2) : h.extractLsb' 8 4 ≠ v := fun e =>
    hv ((field_in_field e 2 2).symm.trans h10)
  obtain ⟨hs0, hs1⟩ := not_addSp (h8 0#4 (by decide))
  rw [hd, decodeThumb101, if_neg h0, if_neg h1, if_neg hs0, if_neg hs1, if_neg (h8 _ (by decide)),
    if_neg (h8 _ (by decide)), if_neg (h8 _ (by decide)), if_neg (h8 _ (by decide)), if_neg (h8 _ (by decide)),
    if_neg (h9 _ (by decide)), if_neg (h9 _ (by decide)), if_pos h10]

theorem decodeThumb_undefBe {h : BitVec 16} (hop : h.extractLsb' 9 7 = 0b1011111#7) :
    decodeThumb h = .ok (.tUndefBe (h.extractLsb' 0 9)) := by
  obtain ⟨hd, h0, h1⟩ := decodeThumb_misc (field_in_field hop 3 4)
  have h9 : h.extractLsb' 9 3 = 7#3 := field_in_field hop 0 3
  have h10 : h.extractLsb' 10 2 = 3#2 := field_in_field hop 1 2
  have h8 (v : BitVec 4) (hv : v.extractLsb' 1 3 ≠ 7#3) : h.extractLsb' 8 4 ≠ v := fun e =>
    hv ((field_in_field e 1 3).symm.trans h9)
  obtain ⟨hs0, hs1⟩ := not_addSp (h8 0#4 (by decide))
  rw [hd, decodeThumb101, if_neg h0, if_neg h1, if_neg hs0, if_neg hs1, if_neg (h8 _ (by decide)),
    if_neg (h8 _ (by decide)), if_neg (h8 _ (by decide)), if_neg (h8 _ (by decide)), if_neg (h8 _ (by decide)),
    if_neg (by rw [h9]; decide), if_neg (by rw [h9]; decide), if_neg (by rw [h10]; decide)]

theorem decode_encode (i : Instr) : decode (encode i) = .ok i := by
  cases i with
  | bx => exact decodeArm_of_bx rfl
  | b => exact decodeArm_of_b rfl
  | bl => exact decodeArm_of_bl rfl
  | andImm => exact decodeArm_of_aluImm (op := .and) rfl
  | eorImm => exact decodeArm_of_aluImm (op := .eor) rfl
  | subImm => exact decodeArm_of_aluImm (op := .sub) rfl
  | rsbImm => exact decodeArm_of_aluImm (op := .rsb) rfl
  | addImm => exact decodeArm_of_aluImm (op := .add) rfl
  | adcImm => exact decodeArm_of_aluImm (op := .adc) rfl
  | sbcImm => exact decodeArm_of_aluImm (op := .sbc) rfl
  | rscImm => exact decodeArm_of_aluImm (op := .rsc) rfl
  | orrImm => exact decodeArm_of_aluImm (op := .orr) rfl
  | movImm => exact decodeArm_of_aluImm (op := .mov) rfl
  | bicImm => exact decodeArm_of_aluImm (op := .bic) rfl
  | mvnImm => exact decodeArm_of_aluImm (op := .mvn) rfl
  | andShift => exact decodeArm_of_aluShift (op := .and) rfl
  | eorShift => exact decodeArm_of_aluShift (op := .eor) rfl
  | subShift => exact decodeArm_of_aluShift (op := .sub) rfl
  | rsbShift => exact decodeArm_of_aluShift (op := .rsb) rfl
  | addShift => exact decodeArm_of_aluShift (op := .add) rfl
  | adcShift => exact decodeArm_of_aluShift (op := .adc) rfl
  | sbcShift => exact decodeArm_of_aluShift (op := .sbc) rfl
  | rscShift => exact decodeArm_of_aluShift (op := .rsc) rfl
  | orrShift => exact decodeArm_of_aluShift (op := .orr) rfl
  | movShift => exact decodeArm_of_aluShift (op := .mov) rfl
  | bicShift => exact decodeArm_of_aluShift (op := .bic) rfl
  | mvnShift => exact decodeArm_of_aluShift (op := .mvn) rfl
  | andReg => exact decodeArm_of_aluReg (op := .and) rfl
  | eorReg => exact decodeArm_of_aluReg (op := .eor) rfl
  | subReg => exact decodeArm_of_aluReg (op := .sub) rfl
  | rsbReg => exact decodeArm_of_aluReg (op := .rsb) rfl
  | addReg => exact decodeArm_of_aluReg (op := .add) rfl
  | adcReg => exact decodeArm_of_aluReg (op := .adc) rfl
  | sbcReg => exact decodeArm_of_aluReg (op := .sbc) rfl
  | rscReg => exact decodeArm_of_aluReg (op := .rsc) rfl
  | orrReg => exact decodeArm_of_aluReg (op := .orr) rfl
  | movReg => exact decodeArm_of_aluReg (op := .mov) rfl
  | bicReg => exact decodeArm_of_aluReg (op := .bic) rfl
  | mvnReg => exact decodeArm_of_aluReg (op := .mvn) rfl
  | tstImm => exact decodeArm_of_testImm (op := .tst) rfl
  | teqImm => exact decodeArm_of_testImm (op := .teq) rfl
  | cmpImm => exact decodeArm_of_testImm (op := .cmp) rfl
  | cmnImm => exact decodeArm_of_testImm (op := .cmn) rfl
  | tstShift => exact decodeArm_of_testShift (op := .tst) rfl
  | teqShift => exact decodeArm_of_testShift (op := .teq) rfl
  | cmpShift => exact decodeArm_of_testShift (op := .cmp) rfl
  | cmnShift => exact decodeArm_of_testShift (op := .cmn) rfl
  | tstReg => exact decodeArm_of_testReg (op := .tst) rfl
  | teqReg => exact decodeArm_of_testReg (op := .teq) rfl
  | cmpReg => exact decodeArm_of_testReg (op := .cmp) rfl
  | cmnReg => exact decodeArm_of_testReg (op := .cmn) rfl
  | mrs => exact decodeArm_of_mrs rfl
  | msrReg => exact decodeArm_of_msrReg rfl
  | msrFlagsReg => exact decodeArm_of_msrFlagsReg rfl
  | msrFlagsImm => exact decodeArm_of_msrFlagsImm rfl
  | mul => exact decodeArm_of_mul rfl
  | mla => exact decodeArm_of_mla rfl
  | umull => exact decodeArm_of_mulLong (op := .umull) rfl
  | umlal => exact decodeArm_of_mulLong (op := .umlal) rfl
  | smull => exact decodeArm_of_mulLong (op := .smull) rfl
  | smlal => exact decodeArm_of_mulLong (op := .smlal) rfl
  | strImmPre => exact decodeArm_of_sdtImmPre (op := .str) rfl
  | strImmPost => exact decodeArm_of_sdtImmPost (op := .str) rfl
  | strtImm => exact decodeArm_of_sdtTImm (op := .str) rfl
  | strRegPre => exact decodeArm_of_sdtRegPre (op := .str) rfl
  | strRegPost => exact decodeArm_of_sdtRegPost (op := .str) rfl
  | strtReg => exact decodeArm_of_sdtTReg (op := .str) rfl
  | ldrImmPre => exact decodeArm_of_sdtImmPre (op := .ldr) rfl
  | ldrImmPost => exact decodeArm_of_sdtImmPost (op := .ldr) rfl
  | ldrtImm => exact decodeArm_of_sdtTImm (op := .ldr) rfl
  | ldrRegPre => exact decodeArm_of_sdtRegPre (op := .ldr) rfl
  | ldrRegPost => exact decodeArm_of_sdtRegPost (op := .ldr) rfl
  | ldrtReg => exact decodeArm_of_sdtTReg (op := .ldr) rfl
  | strbImmPre => exact decodeArm_of_sdtImmPre (op := .strb) rfl
  | strbImmPost => exact decodeArm_of_sdtImmPost (op := .strb) rfl
  | strbtImm => exact decodeArm_of_sdtTImm (op := .strb) rfl
  | strbRegPre => exact decodeArm_of_sdtRegPre (op := .strb) rfl
  | strbRegPost => exact decodeArm_of_sdtRegPost (op := .strb) rfl
  | strbtReg => exact decodeArm_of_sdtTReg (op := .strb) rfl
  | ldrbImmPre => exact decodeArm_of_sdtImmPre (op := .ldrb) rfl
  | ldrbImmPost => exact decodeArm_of_sdtImmPost (op := .ldrb) rfl
  | ldrbtImm => exact decodeArm_of_sdtTImm (op := .ldrb) rfl
  | ldrbRegPre => exact decodeArm_of_sdtRegPre (op := .ldrb) rfl
  | ldrbRegPost => exact decodeArm_of_sdtRegPost (op := .ldrb) rfl
  | ldrbtReg => exact decodeArm_of_sdtTReg (op := .ldrb) rfl
  | strhReg => exact decodeArm_of_hdtReg (op := .strh) rfl
  | strhImm => exact decodeArm_of_hdtImm (op := .strh) rfl
  | ldrhReg => exact decodeArm_of_hdtReg (op := .ldrh) rfl
  | ldrhImm => exact decodeArm_of_hdtImm (op := .ldrh) rfl
  | ldrsbReg => exact decodeArm_of_hdtReg (op := .ldrsb) rfl
  | ldrsbImm => exact decodeArm_of_hdtImm (op := .ldrsb) rfl
  | ldrshReg => exact decodeArm_of_hdtReg (op := .ldrsh) rfl
  | ldrshImm => exact decodeArm_of_hdtImm (op := .ldrsh) rfl
  | stm => exact decodeArm_of_stm rfl
  | ldm => exact decodeArm_of_ldm rfl
  | swp => exact decodeArm_of_swp rfl
  | swpb => exact decodeArm_of_swpb rfl
  | swi => exact decodeArm_of_swi rfl
  | cdp => exact decodeArm_of_cdp rfl
  | stc => exact decodeArm_of_stc rfl
  | ldc => exact decodeArm_of_ldc rfl
  | mcr => exact decodeArm_of_mcr rfl
  | mrc => exact decodeArm_of_mrc rfl
  | undef => exact decodeArm_of_undef rfl
  | tLslImm | tLsrImm | tAsrImm | tStrImm | tLdrImm | tStrbImm | tLdrbImm | tStrhImm | tLdrhImm =>
    refine roundtrip_off5 _ _ _ rfl fun h hop => ?_
    obtain ⟨hf, hg⟩ := top_of_op5 hop
    simp [decodeThumb, decodeThumb000, decodeThumb011, decodeThumb100, hf, hg]
  | tAddReg | tSubReg | tAddImm3 | tSubImm3 | tStrReg | tStrbReg | tLdrReg | tLdrbReg | tStrhReg | tLdrhReg | tLdsbReg
  | tLdshReg =>
    refine roundtrip_reg3 _ _ _ rfl fun h hop => ?_
    obtain ⟨hf, h11, h10, h9, h9'⟩ := top_of_op7 hop
    simp [decodeThumb, decodeThumb000, decodeThumb010, decodeThumbRegOffset, hf, h11, h10, h9, h9']
  | tMovImm | tCmpImm | tAddImm8 | tSubImm8 | tStrSp | tLdrSp | tAddPc | tAddSp | tStmia | tLdmia =>
    refine roundtrip_imm8 _ _ rfl fun h hop => ?_
    obtain ⟨hf, hg⟩ := top_of_op5 hop
    simp [decodeThumb, decodeThumb001, decodeThumb100, decodeThumb101, decodeThumb110, hf, hg]
  | tLdrPc =>
    refine roundtrip_imm8 _ _ rfl fun h hop => ?_
    obtain ⟨hf, hg⟩ := top_of_op5 hop
    have h10 (v : BitVec 3) (hv : v.extractLsb' 1 2 ≠ 1#2) : h.extractLsb' 10 3 ≠ v := fun e =>
      hv ((field_in_field e 1 2).symm.trans hg)
    simp [decodeThumb, decodeThumb010, hf, hg, h10]
  | tAnd | tEor | tLslReg | tLsrReg | tAsrReg | tAdc | tSbc | tRorReg | tTst | tNeg | tCmp | tCmn | tOrr | tMul | tBic
  | tMvn =>
    refine roundtrip_reg2 _ _ rfl fun h hop => ?_
    obtain ⟨hf, h10, -, h6, -⟩ := top_of_op10 hop
    simp [decodeThumb, decodeThumb010, ThumbAluOp.ofBits, Instr.tAlu, hf, h10, h6]
  | tAddLoHi | tAddHiLo | tAddHiHi | tAddLoLo | tCmpLoHi | tCmpHiLo | tCmpHiHi | tCmpLoLo | tMovLoHi | tMovHiLo
  | tMovHiHi | tMovLoLo | tBxLo | tBxHi =>
    refine roundtrip_reg2 _ _ rfl fun h hop => ?_
    obtain ⟨hf, h10, h8, -, h6, hb7, hb6⟩ := top_of_op10 hop
    simp [decodeThumb, decodeThumb010, decodeThumbHi, hf, h10, h8, h6, hb7, hb6]
  | tBxH1 => exact decode_encode_tBxH1 _ _ _
  | tAddSpPos | tAddSpNeg =>
    refine roundtrip_one (m := 9) rfl _ rfl fun h hop => ?_
    obtain ⟨hd, h0, h1⟩ := decodeThumb_misc (field_in_field hop 5 4)
    have h7 := field_in_field hop 0 5
    simp [hd, decodeThumb101, h0, h1, show h.extractLsb' 7 5 = _ from h7]
  | tPush | tPushLr | tPop | tPopPc | tUndefB1 =>
    refine roundtrip_one (m := 8) rfl _ rfl fun h hop => ?_
    obtain ⟨hd, h0, h1⟩ := decodeThumb_misc (field_in_field hop 4 4)
    obtain ⟨-, -, h8⟩ := top_of_op8 hop
    obtain ⟨hs0, hs1⟩ := not_addSp (h8.trans_ne (by decide))
    simp [hd, decodeThumb101, h0, h1, hs0, hs1, h8]
  | tBeq | tBne | tBcs | tBcc | tBmi | tBpl | tBvs | tBvc | tBhi | tBls | tBge | tBlt | tBgt | tBle | tUndefCond | tSwi =>
    refine roundtrip_one (m := 8) rfl _ rfl fun h hop => ?_
    obtain ⟨hf, hg, h8⟩ := top_of_op8 hop
    simp [decodeThumb, decodeThumb110, ThumbCond.ofBits, Instr.tBcond, hf, hg, h8]
  | tUndefB2 => exact roundtrip_one (m := 7) rfl _ rfl fun h hop => decodeThumb_undefB2 hop
  | tUndefB6 => exact roundtrip_one (m := 7) rfl _ rfl fun h hop => decodeThumb_undefB6 hop
  | tUndefB8 => exact roundtrip_one (m := 6) rfl _ rfl fun h hop => decodeThumb_undefB8 hop
  | tUndefBe => exact roundtrip_one (m := 7) rfl _ rfl fun h hop => decodeThumb_undefBe hop
  | tB | tBlHigh | tBlLow | tUndefE8 =>
    refine roundtrip_one (m := 5) rfl _ rfl fun h hop => ?_
    obtain ⟨hf, hg⟩ := top_of_op5 hop
    simp [decodeThumb, decodeThumb111, hf, hg]

/-- Settles O1: each encoding by its shape, whose fields the decoder reads back. -/
theorem decodeOfEncode : Obligations.DecodeOfEncode := by
  unfold Obligations.DecodeOfEncode
  exact decode_encode

end Sys2Proof
end

section
/-! O1 and O2, the other direction: a halfword is the encoding of what it decodes to (30 R121). -/

namespace Sys2Proof

-- Elaborated one after the other: side by side, the threads of one large text pass the memory of the check.
set_option Elab.async false

/-! ### The operation of a field -/

/-- The Op field of Format 4 (47 R330). -/
def ThumbAluOp.code : ThumbAluOp → BitVec 4
  | .and => 0#4 | .eor => 1#4 | .lsl => 2#4 | .lsr => 3#4 | .asr => 4#4 | .adc => 5#4 | .sbc => 6#4 | .ror => 7#4
  | .tst => 8#4 | .neg => 9#4 | .cmp => 10#4 | .cmn => 11#4 | .orr => 12#4 | .mul => 13#4 | .bic => 14#4 | .mvn => 15#4

/-- The Cond field of Format 16 (49 R411). -/
def ThumbCond.code : ThumbCond → BitVec 4
  | .eq => 0#4 | .ne => 1#4 | .cs => 2#4 | .cc => 3#4 | .mi => 4#4 | .pl => 5#4 | .vs => 6#4 | .vc => 7#4
  | .hi => 8#4 | .ls => 9#4 | .ge => 10#4 | .lt => 11#4 | .gt => 12#4 | .le => 13#4

theorem ThumbAluOp.code_ofBits (b : BitVec 4) : (ThumbAluOp.ofBits b).code = b := by revert b; decide

theorem ThumbCond.code_ofBits {b : BitVec 4} (h15 : b ≠ 15#4) (h14 : b ≠ 14#4) : (ThumbCond.ofBits b).code = b := by
  revert b; decide

theorem encode_tAlu (op : ThumbAluOp) (x y : LoReg) :
    encode (.tAlu op x y) = .thumb (((2#3 ++ 0#3) ++ op.code) ++ (x ++ y)) := by
  cases op <;> rfl

theorem encode_tBcond (k : ThumbCond) (off : BitVec 8) :
    encode (.tBcond k off) = .thumb (((6#3 ++ 1#1) ++ k.code) ++ off) := by
  cases k <;> rfl

section

variable {h : BitVec 16}

/-- Two fields that meet make one. -/
theorem join_fields {s m n : Nat} {x : BitVec m} {y : BitVec n} (hx : h.extractLsb' (s + n) m = x)
    (hy : h.extractLsb' s n = y) : h.extractLsb' s (m + n) = x ++ y :=
  ((read_fields read_field read_field).mpr ⟨hx, hy⟩).symm

/-! ### The shapes, filled with the fields of a halfword -/

theorem rebuild_off5 {op : BitVec 5} (hop : h.extractLsb' 11 5 = op) :
    Code.thumb (op ++ (h.extractLsb' 6 5 ++ (h.extractLsb' 3 3 ++ h.extractLsb' 0 3))) = .thumb h :=
  congrArg Code.thumb (half_off5.mpr ⟨hop, rfl, rfl, rfl⟩)

theorem rebuild_reg3 {op : BitVec 7} (hop : h.extractLsb' 9 7 = op) :
    Code.thumb (op ++ (h.extractLsb' 6 3 ++ (h.extractLsb' 3 3 ++ h.extractLsb' 0 3))) = .thumb h :=
  congrArg Code.thumb (half_reg3.mpr ⟨hop, rfl, rfl, rfl⟩)

theorem rebuild_imm8 {op : BitVec 5} (hop : h.extractLsb' 11 5 = op) :
    Code.thumb (op ++ (h.extractLsb' 8 3 ++ h.extractLsb' 0 8)) = .thumb h :=
  congrArg Code.thumb (half_imm8.mpr ⟨hop, rfl, rfl⟩)

theorem rebuild_reg2 {op : BitVec 10} (hop : h.extractLsb' 6 10 = op) :
    Code.thumb (op ++ (h.extractLsb' 3 3 ++ h.extractLsb' 0 3)) = .thumb h :=
  congrArg Code.thumb (half_reg2.mpr ⟨hop, rfl, rfl⟩)

theorem rebuild_one {m n : Nat} {op : BitVec m} (hmn : m + n = 16) (hop : h.extractLsb' n m = op) :
    Code.thumb ((op ++ h.extractLsb' 0 n).cast hmn) = .thumb h := by
  subst hop
  rw [BitVec.extractLsb'_append_extractLsb'_eq_extractLsb' (by omega)]
  refine congrArg Code.thumb (BitVec.eq_of_getLsbD_eq fun i hi => ?_)
  simp [hi]

/-! ### The decoder, function by function -/

theorem encode_decodeThumb000 (hf : h.extractLsb' 13 3 = 0#3) : encode (decodeThumb000 h) = .thumb h := by
  unfold decodeThumb000
  split
  next hg => exact rebuild_off5 (join_fields hf hg)
  next h0 =>
  split
  next hg => exact rebuild_off5 (join_fields hf hg)
  next h1 =>
  split
  next hg => exact rebuild_off5 (join_fields hf hg)
  next h2 =>
  have hg := join_fields hf (field2_eq_three h0 h1 h2)
  split
  next ho => exact rebuild_reg3 (join_fields hg ho)
  next h0 =>
  split
  next ho => exact rebuild_reg3 (join_fields hg ho)
  next h1 =>
  split
  next ho => exact rebuild_reg3 (join_fields hg ho)
  next h2 => exact rebuild_reg3 (join_fields hg (field2_eq_three h0 h1 h2))

theorem encode_decodeThumb001 (hf : h.extractLsb' 13 3 = 1#3) : encode (decodeThumb001 h) = .thumb h := by
  unfold decodeThumb001
  split
  next hg => exact rebuild_imm8 (join_fields hf hg)
  next h0 =>
  split
  next hg => exact rebuild_imm8 (join_fields hf hg)
  next h1 =>
  split
  next hg => exact rebuild_imm8 (join_fields hf hg)
  next h2 => exact rebuild_imm8 (join_fields hf (field2_eq_three h0 h1 h2))

theorem encode_decodeThumbHi (hf : h.extractLsb' 10 6 = 0b010001#6) : encode (decodeThumbHi h) = .thumb h := by
  unfold decodeThumbHi
  split
  next ho =>
    have hop := join_fields hf ho
    split
    next hh => exact rebuild_reg2 (join_fields hop hh)
    next h0 =>
    split
    next hh => exact rebuild_reg2 (join_fields hop hh)
    next h1 =>
    split
    next hh => exact rebuild_reg2 (join_fields hop hh)
    next h2 => exact rebuild_reg2 (join_fields hop (field2_eq_three h0 h1 h2))
  next o0 =>
  split
  next ho =>
    have hop := join_fields hf ho
    split
    next hh => exact rebuild_reg2 (join_fields hop hh)
    next h0 =>
    split
    next hh => exact rebuild_reg2 (join_fields hop hh)
    next h1 =>
    split
    next hh => exact rebuild_reg2 (join_fields hop hh)
    next h2 => exact rebuild_reg2 (join_fields hop (field2_eq_three h0 h1 h2))
  next o1 =>
  split
  next ho =>
    have hop := join_fields hf ho
    split
    next hh => exact rebuild_reg2 (join_fields hop hh)
    next h0 =>
    split
    next hh => exact rebuild_reg2 (join_fields hop hh)
    next h1 =>
    split
    next hh => exact rebuild_reg2 (join_fields hop hh)
    next h2 => exact rebuild_reg2 (join_fields hop (field2_eq_three h0 h1 h2))
  next o2 =>
  have hop := join_fields hf (field2_eq_three o0 o1 o2)
  have one_bit {i : Nat} {b : Bool} (hb : bitAt h i = b) : h.extractLsb' i 1 = BitVec.ofBool b :=
    (read_bit.mpr hb).symm
  split
  next h7 => exact congrArg Code.thumb (half_bxH1.mpr ⟨join_fields hop (one_bit h7), rfl, rfl, rfl⟩)
  next h7 =>
  have hop := join_fields hop (one_bit (Bool.eq_false_of_not_eq_true h7))
  split
  next h6 => exact rebuild_reg2 (join_fields hop (one_bit h6))
  next h6 => exact rebuild_reg2 (join_fields hop (one_bit (Bool.eq_false_of_not_eq_true h6)))

theorem encode_decodeThumbRegOffset (hf : h.extractLsb' 12 4 = 5#4) : encode (decodeThumbRegOffset h) = .thumb h := by
  unfold decodeThumbRegOffset
  split
  next ho => exact rebuild_reg3 (join_fields hf ho)
  next h0 =>
  split
  next ho => exact rebuild_reg3 (join_fields hf ho)
  next h1 =>
  split
  next ho => exact rebuild_reg3 (join_fields hf ho)
  next h2 =>
  split
  next ho => exact rebuild_reg3 (join_fields hf ho)
  next h3 =>
  split
  next ho => exact rebuild_reg3 (join_fields hf ho)
  next h4 =>
  split
  next ho => exact rebuild_reg3 (join_fields hf ho)
  next h5 =>
  split
  next ho => exact rebuild_reg3 (join_fields hf ho)
  next h6 => exact rebuild_reg3 (join_fields hf (field3_eq_seven h0 h1 h2 h3 h4 h5 h6))

/-- Formats 7 and 8 are the rest of bits 15:13 = 010 (30 R121). -/
theorem bit12_of_regOffset {b : BitVec 3} (h0 : b ≠ 0#3) (h1 : b ≠ 1#3) (hl : b.extractLsb' 1 2 ≠ 1#2) :
    b.extractLsb' 2 1 = 1#1 := by
  revert b; decide

theorem encode_decodeThumb010 (hf : h.extractLsb' 13 3 = 2#3) : encode (decodeThumb010 h) = .thumb h := by
  unfold decodeThumb010
  split
  next hg =>
    rw [encode_tAlu]
    exact rebuild_reg2 (join_fields (join_fields hf hg) (ThumbAluOp.code_ofBits _).symm)
  next h0 =>
  split
  next hg => exact encode_decodeThumbHi (join_fields hf hg)
  next h1 =>
  split
  next hl => exact rebuild_imm8 (join_fields hf hl)
  next hl =>
    refine encode_decodeThumbRegOffset (join_fields (n := 1) (y := 1#1) hf ?_)
    exact (field_in_field (s := 10) (n := 3) rfl 2 1).trans
      (bit12_of_regOffset h0 h1 fun e => hl ((field_in_field rfl 1 2).trans e))

theorem encode_decodeThumb011 (hf : h.extractLsb' 13 3 = 3#3) : encode (decodeThumb011 h) = .thumb h := by
  unfold decodeThumb011
  split
  next hg => exact rebuild_off5 (join_fields hf hg)
  next h0 =>
  split
  next hg => exact rebuild_off5 (join_fields hf hg)
  next h1 =>
  split
  next hg => exact rebuild_off5 (join_fields hf hg)
  next h2 => exact rebuild_off5 (join_fields hf (field2_eq_three h0 h1 h2))

theorem encode_decodeThumb100 (hf : h.extractLsb' 13 3 = 4#3) : encode (decodeThumb100 h) = .thumb h := by
  unfold decodeThumb100
  split
  next hg => exact rebuild_off5 (join_fields hf hg)
  next h0 =>
  split
  next hg => exact rebuild_off5 (join_fields hf hg)
  next h1 =>
  split
  next hg => exact rebuild_imm8 (join_fields hf hg)
  next h2 => exact rebuild_imm8 (join_fields hf (field2_eq_three h0 h1 h2))

/-- Bits 12:11 from 10 up are 1 in bit 12. -/
theorem bit12_of_ge {b : BitVec 2} (h0 : b ≠ 0#2) (h1 : b ≠ 1#2) : b.extractLsb' 1 1 = 1#1 := by revert b; decide

/-- The last of the sets beside Formats 13 and 14 (30 R131) is what the others leave of bits 11:8. -/
theorem undefBe_of_rest {b : BitVec 4} (h8 : ∀ v ∈ [0#4, 4#4, 5#4, 12#4, 13#4, 1#4], b ≠ v)
    (hB2 : b.extractLsb' 1 3 ≠ 1#3) (hB6 : b.extractLsb' 1 3 ≠ 3#3) (hB8 : b.extractLsb' 2 2 ≠ 2#2) :
    b.extractLsb' 1 3 = 7#3 := by
  revert b; decide

theorem encode_decodeThumb101 (hf : h.extractLsb' 13 3 = 5#3) : encode (decodeThumb101 h) = .thumb h := by
  unfold decodeThumb101
  by_cases h0 : h.extractLsb' 11 2 = 0#2
  · rw [if_pos h0]
    exact rebuild_imm8 (join_fields hf h0)
  rw [if_neg h0]
  by_cases h1 : h.extractLsb' 11 2 = 1#2
  · rw [if_pos h1]
    exact rebuild_imm8 (join_fields hf h1)
  rw [if_neg h1]
  have hop := join_fields (n := 1) (y := 1#1) hf
    ((field_in_field (s := 11) (n := 2) rfl 1 1).trans (bit12_of_ge h0 h1))
  by_cases hs0 : h.extractLsb' 7 5 = 0#5
  · rw [if_pos hs0]
    exact rebuild_one (m := 9) rfl (join_fields hop hs0)
  rw [if_neg hs0]
  by_cases hs1 : h.extractLsb' 7 5 = 1#5
  · rw [if_pos hs1]
    exact rebuild_one (m := 9) rfl (join_fields hop hs1)
  rw [if_neg hs1]
  by_cases h4 : h.extractLsb' 8 4 = 4#4
  · rw [if_pos h4]
    exact rebuild_one (m := 8) rfl (join_fields hop h4)
  rw [if_neg h4]
  by_cases h5 : h.extractLsb' 8 4 = 5#4
  · rw [if_pos h5]
    exact rebuild_one (m := 8) rfl (join_fields hop h5)
  rw [if_neg h5]
  by_cases h12 : h.extractLsb' 8 4 = 12#4
  · rw [if_pos h12]
    exact rebuild_one (m := 8) rfl (join_fields hop h12)
  rw [if_neg h12]
  by_cases h13 : h.extractLsb' 8 4 = 13#4
  · rw [if_pos h13]
    exact rebuild_one (m := 8) rfl (join_fields hop h13)
  rw [if_neg h13]
  by_cases hB1 : h.extractLsb' 8 4 = 1#4
  · rw [if_pos hB1]
    exact rebuild_one (m := 8) rfl (join_fields hop hB1)
  rw [if_neg hB1]
  by_cases hB2 : h.extractLsb' 9 3 = 1#3
  · rw [if_pos hB2]
    exact rebuild_one (m := 7) rfl (join_fields hop hB2)
  rw [if_neg hB2]
  by_cases hB6 : h.extractLsb' 9 3 = 3#3
  · rw [if_pos hB6]
    exact rebuild_one (m := 7) rfl (join_fields hop hB6)
  rw [if_neg hB6]
  by_cases hB8 : h.extractLsb' 10 2 = 2#2
  · rw [if_pos hB8]
    exact rebuild_one (m := 6) rfl (join_fields hop hB8)
  rw [if_neg hB8]
  have part (i l : Nat) (hl : i + l ≤ 4) : (h.extractLsb' 8 4).extractLsb' i l = h.extractLsb' (8 + i) l :=
    (field_in_field rfl i l hl).symm
  have h8 : h.extractLsb' 8 4 ≠ 0#4 := by
    intro hz
    have hs := join_fields (s := 7) (n := 1) hz (read_bit.mpr rfl).symm
    cases hb : bitAt h 7 <;> rw [hb] at hs
    · exact hs0 hs
    · exact hs1 hs
  have h9 : h.extractLsb' 9 3 = 7#3 := (part 1 3 (by decide)).symm.trans <|
    undefBe_of_rest (by simp [h8, h4, h5, h12, h13, hB1]) (part 1 3 (by decide) ▸ hB2) (part 1 3 (by decide) ▸ hB6)
      (part 2 2 (by decide) ▸ hB8)
  exact rebuild_one (m := 7) rfl (join_fields hop h9)

theorem encode_decodeThumb110 (hf : h.extractLsb' 13 3 = 6#3) : encode (decodeThumb110 h) = .thumb h := by
  unfold decodeThumb110
  split
  next hg => exact rebuild_imm8 (join_fields hf hg)
  next h0 =>
  split
  next hg => exact rebuild_imm8 (join_fields hf hg)
  next h1 =>
  have h12 : h.extractLsb' 12 1 = 1#1 := (field_in_field (s := 11) (n := 2) rfl 1 1).trans (bit12_of_ge h0 h1)
  have hop := join_fields hf h12
  split
  next h8 => exact rebuild_one (m := 8) rfl (join_fields hop h8)
  next h15 =>
  split
  next h8 => exact rebuild_one (m := 8) rfl (join_fields hop h8)
  next h14 =>
    rw [encode_tBcond]
    exact rebuild_one (m := 8) rfl (join_fields hop (ThumbCond.code_ofBits h15 h14).symm)

theorem encode_decodeThumb111 (hf : h.extractLsb' 13 3 = 7#3) : encode (decodeThumb111 h) = .thumb h := by
  unfold decodeThumb111
  split
  next hg => exact rebuild_one (m := 5) rfl (join_fields hf hg)
  next h0 =>
  split
  next hg => exact rebuild_one (m := 5) rfl (join_fields hf hg)
  next h1 =>
  split
  next hg => exact rebuild_one (m := 5) rfl (join_fields hf hg)
  next h2 => exact rebuild_one (m := 5) rfl (join_fields hf (field2_eq_three h0 h1 h2))

/-- A halfword is the encoding of its instruction. -/
theorem encode_of_decodeThumb {i : Instr} (hi : decodeThumb h = .ok i) : encode i = .thumb h := by
  rw [decodeThumb, Decoded.ok.injEq] at hi
  subst hi
  split
  next hf => exact encode_decodeThumb000 hf
  next h0 =>
  split
  next hf => exact encode_decodeThumb001 hf
  next h1 =>
  split
  next hf => exact encode_decodeThumb010 hf
  next h2 =>
  split
  next hf => exact encode_decodeThumb011 hf
  next h3 =>
  split
  next hf => exact encode_decodeThumb100 hf
  next h4 =>
  split
  next hf => exact encode_decodeThumb101 hf
  next h5 =>
  split
  next hf => exact encode_decodeThumb110 hf
  next h6 => exact encode_decodeThumb111 (field3_eq_seven h0 h1 h2 h3 h4 h5 h6)

end

/-- Settles O2: the decoder's branches read off the fields that the encoding is made of. -/
theorem encodeOfDecode : Obligations.EncodeOfDecode := by
  unfold Obligations.EncodeOfDecode
  intro c i h
  cases c with
  | arm w => exact encode_of_decodeArm h
  | thumb w => exact encode_of_decodeThumb h

end Sys2Proof
end

section
/-! O4: the words without an instruction (30 R105, R112, 44 R258). -/

namespace Sys2Proof

-- Elaborated one after the other: side by side, the threads of one large text pass the memory of the check.
set_option Elab.async false

open Sys2Proof.Machine

/-- The decoder answers an instruction. -/
def Decoded.isInstr (d : Decoded) : Prop := ∃ i : Instr, d = .ok i

@[simp] theorem Decoded.isInstr_ok (i : Instr) : (Decoded.ok i).isInstr ↔ True := iff_true_intro ⟨i, rfl⟩

@[simp] theorem Decoded.isInstr_error (e : DecodeError) : (Decoded.error e).isInstr ↔ False :=
  iff_false_intro fun ⟨_, h⟩ => by cases h

section

variable (w : BitVec 32) (c : Cond)

/-- Of the words with bits 7:4 = 1001 the sets U5a, U5b and U5f have none (30 R112). -/
theorem isInstr_decodeMultiply : (decodeMultiply c w).isInstr ↔
    ¬ (w.extractLsb' 23 2 = 2#2 ∧ ¬ (w.extractLsb' 20 2 = 0#2 ∧ w.extractLsb' 8 4 = 0#4)) ∧
      ¬ w.extractLsb' 23 2 = 3#2 ∧ ¬ w.extractLsb' 22 3 = 1#3 := by
  have parts : w.extractLsb' 23 2 = (w.extractLsb' 22 3).extractLsb' 1 2 := field_in_field rfl 1 2
  unfold decodeMultiply
  rw [parts]
  generalize w.extractLsb' 22 3 = b
  split_ifs <;> simp_all
  all_goals revert b; decide

/-- Of the halfword and signed transfers the set U5c and the signed stores have none (30 R112, 44 R258). -/
theorem isInstr_decodeHalfword : (decodeHalfword c w).isInstr ↔
    ¬ (bitAt w 22 = false ∧ w.extractLsb' 8 4 ≠ 0#4) ∧ ¬ (bitAt w 20 = false ∧ bitAt w 6 = true) := by
  unfold decodeHalfword
  split_ifs <;> simp_all

/-- Of the status register transfers the set U5d has none (30 R112). -/
theorem isInstr_decodePsrReg : (decodePsrReg c w).isInstr ↔
    (w.extractLsb' 16 6 = 0x0F#6 ∧ w.extractLsb' 0 12 = 0#12) ∨
      (w.extractLsb' 12 10 = 0x29F#10 ∧ w.extractLsb' 4 8 = 0#8) ∨
      (w.extractLsb' 12 10 = 0x28F#10 ∧ w.extractLsb' 4 8 = 0#8) := by
  unfold decodePsrReg
  split_ifs <;> simp_all

/-- Bits 7:4 = 1001, and bits 7 and 4 set with bits 6:5 not 00, part the words with bits 7 and 4 set (30 R103). -/
theorem bits_1001_iff : w.extractLsb' 4 4 = 9#4 ↔ bitAt w 7 = true ∧ bitAt w 4 = true ∧ w.extractLsb' 5 2 = 0#2 := by
  constructor
  · exact fun h => ⟨bit_in_field h 3, bit_in_field h 0, field_in_field h 1 2⟩
  · rintro ⟨h7, h4, h5⟩
    exact ((read_fields (x := BitVec.ofBool true) (y := 0#2 ++ BitVec.ofBool true) read_bit
      (field_then read_bit)).mpr ⟨h7, h5, h4⟩).symm

/-- BX has bits 7:4 = 0001. -/
theorem not_bx_of_bits (h : bitAt w 7 = true) : w.extractLsb' 4 24 ≠ 0x12FFF1#24 := fun hx => by
  have h7 : bitAt w 7 = false := bit_in_field hx 3
  exact Bool.noConfusion (h7.symm.trans h)

/-- Under bits 27:25 = 000, the sets by the branch of the decoder that each falls to. -/
theorem unallocatedArm_000 (hf : w.extractLsb' 25 3 = 0#3) : unallocatedArm w = false ↔
    (w.extractLsb' 4 4 = 9#4 → (decodeMultiply c w).isInstr) ∧
      (bitAt w 7 = true ∧ bitAt w 4 = true ∧ w.extractLsb' 5 2 ≠ 0#2 → (decodeHalfword c w).isInstr) ∧
      (¬ (bitAt w 7 = true ∧ bitAt w 4 = true) → w.extractLsb' 23 2 = 2#2 ∧ bitAt w 20 = false →
        w.extractLsb' 4 24 ≠ 0x12FFF1#24 → (decodePsrReg c w).isInstr) := by
  rw [isInstr_decodeMultiply, isInstr_decodeHalfword, isInstr_decodePsrReg]
  simp only [unallocatedArm, hf, bitAt, beq_self_eq_true, Bool.true_and, Bool.or_eq_false_iff, Bool.and_eq_false_iff,
    bne_eq_false_iff_eq, Bool.not_eq_false', beq_eq_false_iff_ne, beq_iff_eq, Bool.and_eq_true, ne_eq,
    show (0#3 == 1#3) = false from rfl, Bool.false_and, and_true]
  grind

theorem isInstr_decodeArm000 (hf : w.extractLsb' 25 3 = 0#3) :
    (decodeArm000 c w).isInstr ↔ unallocatedArm w = false := by
  have h9 := bits_1001_iff w
  have hx := not_bx_of_bits w
  rw [unallocatedArm_000 w c hf]
  unfold decodeArm000
  split_ifs with hbx hm hb hp
  · have h7 : bitAt w 7 = false := bit_in_field hbx 3
    simp [h9, h7, hbx]
  · simp [hm, h9.mp hm]
  · simp [hm, hb, mt (fun h => h9.mpr ⟨hb.1, hb.2, h⟩) hm]
  · have h7 : ¬ (bitAt w 7 = true ∧ bitAt w 4 = true ∧ w.extractLsb' 5 2 ≠ 0#2) := fun h => hb ⟨h.1, h.2.1⟩
    simp [hm, hb, hp, hbx, h7]
  · have h7 : ¬ (bitAt w 7 = true ∧ bitAt w 4 = true ∧ w.extractLsb' 5 2 ≠ 0#2) := fun h => hb ⟨h.1, h.2.1⟩
    simp [hm, h7, hp]

theorem isInstr_decodeArm001 (hf : w.extractLsb' 25 3 = 1#3) :
    (decodeArm001 c w).isInstr ↔ unallocatedArm w = false := by
  unfold decodeArm001
  split_ifs <;> simp_all [unallocatedArm, bitAt]

theorem isInstr_decodeArmBody : (decodeArmBody c w).isInstr ↔ unallocatedArm w = false := by
  unfold decodeArmBody
  split_ifs with h0 h1
  · exact isInstr_decodeArm000 w c h0
  · exact isInstr_decodeArm001 w c h1
  all_goals simp [unallocatedArm, *]

end

/-- Settles O4: condition 1111 names no condition; below it the decoder's branches answer an error on the sets alone. -/
theorem wordsWithoutInstruction : Obligations.WordsWithoutInstruction := by
  unfold Obligations.WordsWithoutInstruction
  refine ⟨fun w h => ?_, fun w h => ?_, fun h => ⟨_, rfl⟩⟩
  · rw [decodeArm, h]
    rfl
  · have some_cond : ∀ b : BitVec 4, b ≠ 15#4 → (Cond.ofBits b).isSome = true := by decide
    obtain ⟨c, hc⟩ := Option.isSome_iff_exists.mp (some_cond _ h)
    rw [decodeArm_eq_body hc]
    exact isInstr_decodeArmBody w c

end Sys2Proof
end

section
/-! O12, O20, O22, O58: the reset state, the instructions that only take an exception, operands, and isolation. -/

namespace Sys2Proof.Machine

-- Elaborated one after the other: side by side, the threads of one large text pass the memory of the check.
set_option Elab.async false

/-- Settles O12: an empty memory, PC 0 and an empty pipeline. -/
theorem resetMeetsInvariant : Obligations.ResetMeetsInvariant := by
  unfold Obligations.ResetMeetsInvariant
  exact ⟨rfl, rfl, Nat.zero_le 3⟩

theorem State.instrBytes_thumb {s : State} (h : s.cpsr.t = true) : s.instrBytes = 2#32 := by
  rw [State.instrBytes, h, if_pos rfl]

/-- The rows of the THUMB table that no format allocates take the Undefined instruction trap (D19). -/
theorem exec_thumbUndefined (s : State) (i : Instr) (h : i.thumbUndefined = true) : exec i s = .next s.takeUndefined := by
  cases i with
  | tUndefCond | tUndefB1 | tUndefB2 | tUndefB6 | tUndefB8 | tUndefBe | tUndefE8 => rfl
  | _ => cases h

/-- Settles O20: each of them is one exception entry, with the next instruction as the link. -/
theorem trapInstructions : Obligations.TrapInstructions := by
  unfold Obligations.TrapInstructions
  refine ⟨?swi, ?thumbSwi, ?undef, ?thumbUndef⟩
  case swi =>
    intro s c k ht hc
    show execSwi c k s = _
    rw [execSwi, State.conditional_pass _ _ _ hc, State.takeSwi, State.instrBytes_arm ht]
  case thumbSwi =>
    intro s k ht
    show Host.Outcome.next s.takeSwi = _
    rw [State.takeSwi, State.instrBytes_thumb ht]
  case undef =>
    intro s c x y ht hc
    show execUndef c x y s = _
    rw [execUndef, State.conditional_pass _ _ _ hc, State.takeUndefined, State.instrBytes_arm ht]
  case thumbUndef =>
    intro s i ht hi
    rw [exec_thumbUndefined s i hi, State.takeUndefined, State.instrBytes_thumb ht]

theorem State.operand_pc_arm {s : State} (h : s.cpsr.t = false) : s.operand 15#4 = s.pc + 8#32 := by
  rw [State.operand, State.readReg, if_pos rfl, h, if_neg (by decide)]

theorem State.operand_pc_thumb {s : State} (h : s.cpsr.t = true) : s.operand 15#4 = s.pc + 4#32 := by
  rw [State.operand, State.readReg, if_pos rfl, h, if_pos rfl]

/-- A register other than R15 reads alike as a near and as a far operand. -/
theorem State.operandFar_of_ne (s : State) {r : Reg} (h : r ≠ 15#4) : s.operandFar r = s.operand r := by
  rw [State.operandFar_eq, if_neg h]

/-- Settles O22: R15 by the kind of its operand, every other register by its bank. -/
theorem operandsReadThePc : Obligations.OperandsReadThePc := by
  unfold Obligations.OperandsReadThePc
  refine ⟨fun s => State.operand_pc_arm, fun s => State.operand_pc_thumb, State.operand_eq, ?_, ?_, ?_, ?_⟩
  · exact fun s rs rm ty => ⟨rfl, rfl⟩
  · exact fun s rn rs rm ty hn => s.operandFar_of_ne hn
  · intro s rs rm ty hm
    rw [State.op2, State.operandFar_of_ne s hm]
  · exact fun s rn rm ty n rot imm => ⟨rfl, rfl, rfl, rfl⟩

/-- Settles O58: what an instruction leaves of the debug state (`exec_keepsDebug`) says it for memory and the bus too. -/
theorem debugStateIsolatesMemory : Obligations.DebugStateIsolatesMemory := by
  unfold Obligations.DebugStateIsolatesMemory
  exact fun i s t hi ht => (exec_keepsDebug i s t ht).isolates hi

end Sys2Proof.Machine
end

section
/-! O23, O24, O26, O27: the data processing instructions with Rd not R15, and the tests (41_arm_data_processing.md). -/

namespace Sys2Proof.Machine

-- Elaborated one after the other: side by side, the threads of one large text pass the memory of the check.
set_option Elab.async false

/-! ### The flags of Table 7 -/

theorem toInt_not (b : Word) : (~~~b).toInt = - b.toInt - 1 := by
  rw [BitVec.toInt_eq_toNat_cond, BitVec.toInt_eq_toNat_cond, BitVec.toNat_not]
  have hb := b.isLt
  split <;> split <;> omega

/-- No borrow of a difference is the carry of the adder on the complement (41 R181). -/
theorem addWithCarry_not_carry (a b : Word) (c : Bool) :
    (addWithCarry a (~~~b) c).carry = true ↔ b.toNat + 1 ≤ a.toNat + c.toNat := by
  rw [addWithCarry_carry, BitVec.toNat_not]
  have hb := b.isLt
  omega

theorem addWithCarry_not_overflow (a b : Word) (c : Bool) :
    (addWithCarry a (~~~b) c).overflow = true ↔ overflows (a.toInt - b.toInt + c.toNat - 1) := by
  rw [addWithCarry_overflow, toInt_not]
  unfold overflows
  omega

/-- The flags read off a sum are those of 41 R181 where its value, carry and overflow are those of the operation. -/
theorem Psr.afterArith_arithFlags (p : Psr) {op : AluOp} {a b : Word} {r : AddResult} (hr : r.value = op.result a b p.c)
    (hc : r.carry = true ↔ op.carries a b p.c) (hv : r.overflow = true ↔ overflows (op.exact a b p.c)) :
    p.afterArith (p.arithFlags r) op a b :=
  ⟨by rw [← hr]; rfl, by rw [← hr]; rfl, hc, hv, rfl, rfl, rfl, rfl⟩

theorem aluOut_logical (op : AluOp) (p : Psr) (a : Word) (b : Shifted) (h : op.isLogical = true) :
    (aluOut op p a b).2 = p.afterLogical (op.result a b.value p.c) b.carry := by
  cases op with
  | and | eor | orr | mov | bic | mvn => rfl
  | sub | rsb | add | adc | sbc | rsc => cases h

/-- The flags of every arithmetic operation, from the one adder. -/
theorem aluOut_arith (op : AluOp) (p : Psr) (a : Word) (b : Shifted) (h : op.isLogical = false) :
    p.afterArith (aluOut op p a b).2 op a b.value := by
  have hv := aluOut_value op p a b
  cases op with
  | and | eor | orr | mov | bic | mvn => cases h
  | add =>
    refine p.afterArith_arithFlags hv (addWithCarry_carry a b.value false) ?_
    exact (addWithCarry_overflow a b.value false).trans (by simp [AluOp.exact])
  | adc => exact p.afterArith_arithFlags hv (addWithCarry_carry _ _ _) (addWithCarry_overflow _ _ _)
  | sub =>
    refine p.afterArith_arithFlags hv ?_ ?_
    · exact (addWithCarry_not_carry a b.value true).trans Nat.succ_le_succ_iff
    · exact (addWithCarry_not_overflow a b.value true).trans (by simp [AluOp.exact])
  | rsb =>
    refine p.afterArith_arithFlags hv ?_ ?_
    · exact (addWithCarry_not_carry b.value a true).trans Nat.succ_le_succ_iff
    · exact (addWithCarry_not_overflow b.value a true).trans (by simp [AluOp.exact])
  | sbc => exact p.afterArith_arithFlags hv (addWithCarry_not_carry _ _ _) (addWithCarry_not_overflow _ _ _)
  | rsc => exact p.afterArith_arithFlags hv (addWithCarry_not_carry _ _ _) (addWithCarry_not_overflow _ _ _)

theorem aluOut_t (op : AluOp) (p : Psr) (a : Word) (b : Shifted) : (aluOut op p a b).2.t = p.t := by
  cases op <;> rfl

/-- A test leaves the flags of its operation (41 R190 to R193). -/
theorem testOut_eq (op : TestOp) (p : Psr) (a : Word) (b : Shifted) : testOut op p a b = (aluOut op.alu p a b).2 := by
  cases op <;> rfl

/-! ### The instructions -/

section

variable (s : State) {c : Cond} (hc : condPassed c s.cpsr = true) {o : Op2} (ho : o.excluded = false)

include hc ho

/-- An operation with Rd not R15 (41 R178). -/
theorem exec_aluInstr_reg (op : AluOp) (sf : Bool) (rn : Reg) {rd : Reg} (hd : rd ≠ 15#4) :
    exec (aluInstr op c sf rn rd o) s =
      .next ((s.writeReg rd (op.result (s.op1 rn o) (s.op2 o).value s.cpsr.c)).withCpsr
        (if sf then (aluOut op s.cpsr (s.op1 rn o) (s.op2 o)).2 else s.cpsr)).advance := by
  rw [exec_aluInstr, State.dataOp, State.conditional_pass _ _ _ hc, if_neg (Bool.not_eq_true _ ▸ ho)]
  dsimp only
  rw [if_neg hd, aluOut_value]

/-- It writes the result of Table 7, and the flags with S. -/
theorem exec_aluInstr_sets (op : AluOp) (sf : Bool) (rn : Reg) {rd : Reg} (hd : rd ≠ 15#4) :
    ∃ t : State, exec (aluInstr op c sf rn rd o) s = .next t ∧
      s.sets t rd (op.result (s.op1 rn o) (s.op2 o).value s.cpsr.c)
        (if sf then (aluOut op s.cpsr (s.op1 rn o) (s.op2 o)).2 else s.cpsr) := by
  refine ⟨_, exec_aluInstr_reg s hc ho op sf rn hd, s.sets_write _ _ _ ?_⟩
  split
  · exact aluOut_t _ _ _ _
  · rfl

theorem exec_testInstr_reg (op : TestOp) (rn : Reg) {rd : Reg} (hd : rd ≠ 15#4) :
    exec (testInstr op c rn rd o) s =
      .next (s.withCpsr (aluOut op.alu s.cpsr (s.op1 rn o) (s.op2 o)).2).advance := by
  rw [exec_testInstr, State.testOp, State.conditional_pass _ _ _ hc, if_neg (Bool.not_eq_true _ ▸ ho), if_neg hd,
    testOut_eq]

theorem exec_testInstr_pc (op : TestOp) (rn : Reg) : exec (testInstr op c rn 15#4 o) s = s.testP := by
  rw [exec_testInstr, State.testOp, State.conditional_pass _ _ _ hc, if_neg (Bool.not_eq_true _ ▸ ho), if_pos rfl]

end

/-- Settles O23. -/
theorem logicalOperations : Obligations.LogicalOperations := by
  unfold Obligations.LogicalOperations
  intro s op c sf rn rd o _ hop hc ho hd
  rw [← aluOut_logical op s.cpsr (s.op1 rn o) (s.op2 o) hop]
  exact exec_aluInstr_sets s hc ho op sf rn hd

/-- Settles O24. -/
theorem arithmeticOperations : Obligations.ArithmeticOperations := by
  unfold Obligations.ArithmeticOperations
  intro s op c sf rn rd o _ hop hc ho hd
  obtain ⟨t, ht, hs⟩ := exec_aluInstr_sets s hc ho op sf rn hd
  refine ⟨t, _, ht, hs, ?withS, ?withoutS⟩
  case withS =>
    rintro rfl
    exact aluOut_arith op s.cpsr (s.op1 rn o) (s.op2 o) hop
  case withoutS =>
    rintro rfl
    rfl

/-- Settles O26: the flags of the operation that the test stands for, and no other change. -/
theorem testOperations : Obligations.TestOperations := by
  unfold Obligations.TestOperations
  intro s op c rn rd o _ hc ho hd
  exact ⟨_, _, exec_testInstr_reg s hc ho op rn hd, s.setsFlags_advance _ (aluOut_t _ _ _ _),
    aluOut_logical op.alu s.cpsr (s.op1 rn o) (s.op2 o), aluOut_arith op.alu s.cpsr (s.op1 rn o) (s.op2 o)⟩

/-! ### The P forms -/

theorem State.testP_user {s : State} (h : s.cpsr.m = modeUsr) : s.testP = .next s.advance := by
  rw [State.testP, if_pos h]

/-- In a mode with an SPSR the P form makes it the CPSR, unless T would change. -/
theorem State.testP_spsr {s : State} {p : Psr} (h : s.spsr = some p) :
    s.testP = if p.t = s.cpsr.t then .next (s.withCpsr p).advance else .fault .stateBitChanged := by
  have hm : s.cpsr.m ≠ modeUsr := by
    intro hm
    rw [s.spsr_user hm] at h
    cases h
  rw [State.testP, if_neg hm, h]

theorem State.testP_system {s : State} (h : s.cpsr.m = modeSys) : s.testP = .fault .noSpsr := by
  rw [State.testP, if_neg (by rw [h]; decide), s.spsr_system h]

/-- Settles O27: the four cases of `State.testP`. -/
theorem testPForms : Obligations.TestPForms := by
  unfold Obligations.TestPForms
  intro s op c rn o ht hc ho
  rw [exec_testInstr_pc s hc ho op rn]
  refine ⟨?user, ?sameT, ?otherT, State.testP_system⟩
  case user => exact fun hm => ⟨_, State.testP_user hm, s.setsFlags_advance s.cpsr rfl⟩
  case sameT =>
    intro p hp hpt
    obtain ⟨hcpsr, hpc, hframe⟩ := s.setsFlags_advance p (hpt.trans ht.symm)
    rw [State.instrBytes_arm ht] at hpc
    exact ⟨_, (State.testP_spsr hp).trans (if_pos (hpt.trans ht.symm)), hcpsr, hpc, hframe⟩
  case otherT =>
    intro p hp hpt
    exact (State.testP_spsr hp).trans (if_neg (by rw [hpt, ht]; decide))

end Sys2Proof.Machine
end

section
/-! O21: the barrel shifter (41 R172 to R174). -/

namespace Sys2Proof.Machine

-- Elaborated one after the other: side by side, the threads of one large text pass the memory of the check.
set_option Elab.async false

/-! ### The second lines of 41 R172, as arithmetic -/

theorem shiftLeft_eq_ofNat (v : Word) (n : Nat) : v <<< n = BitVec.ofNat 32 (v.toNat * 2 ^ n) := by
  apply BitVec.eq_of_toNat_eq
  rw [BitVec.toNat_shiftLeft, BitVec.toNat_ofNat, Nat.shiftLeft_eq]

theorem ushiftRight_eq_ofNat (v : Word) (n : Nat) : v >>> n = BitVec.ofNat 32 (v.toNat / 2 ^ n) := by
  apply BitVec.eq_of_toNat_eq
  rw [BitVec.toNat_ushiftRight, BitVec.toNat_ofNat, Nat.shiftRight_eq_div_pow,
    Nat.mod_eq_of_lt ((Nat.div_le_self _ _).trans_lt v.isLt)]

theorem sshiftRight_eq_ofInt (v : Word) (n : Nat) : v.sshiftRight n = BitVec.ofInt 32 (v.toInt / 2 ^ n) := by
  rw [BitVec.sshiftRight, Int.shiftRight_eq_div_pow]
  norm_cast

/-- A value of 32 bits, shifted left by 32 or more, is zero. -/
theorem ofNat_mul_pow_of_le (v : Word) {n : Nat} (h : 32 ≤ n) : BitVec.ofNat 32 (v.toNat * 2 ^ n) = 0#32 := by
  rw [← shiftLeft_eq_ofNat, BitVec.shiftLeft_eq_zero h]

theorem ofNat_div_pow_of_le (v : Word) {n : Nat} (h : 32 ≤ n) : BitVec.ofNat 32 (v.toNat / 2 ^ n) = 0#32 := by
  rw [← ushiftRight_eq_ofNat, BitVec.ushiftRight_eq_zero h]

/-- All bits equal to bit 31 is what an arithmetic shift by 32 or more leaves. -/
theorem signFill_eq (v : Word) {n : Nat} (h : 32 ≤ n) : signFill v = v.sshiftRight n := by
  apply BitVec.eq_of_getLsbD_eq
  intro k hk
  have hk' : decide (32 ≤ k) = false := decide_eq_false (by omega)
  have ones : ∀ j < 32, (0xFFFFFFFF#32 : Word).getLsbD j = true := by decide
  rw [BitVec.getLsbD_sshiftRight, if_neg (by omega), signFill, BitVec.msb_eq_getLsbD_last, hk']
  change _ = (!false && v.getLsbD 31)
  cases hv : v.getLsbD 31
  · rw [if_neg (by decide)]
    exact BitVec.getLsbD_zero
  · rw [if_pos rfl, ones k hk]
    rfl

theorem rotateRight_zero (v : Word) : v.rotateRight 0 = v := by
  apply BitVec.eq_of_getLsbD_eq
  intro k hk
  rw [BitVec.getLsbD_rotateRight]
  simp [hk]

/-! ### A register amount, by shift type -/

section

variable (v : Word) {a : Byte} (c : Bool) (h : a ≠ 0#8)

include h

theorem toNat_ne_zero_of_ne : a.toNat ≠ 0 := fun e => h (BitVec.eq_of_toNat_eq e)

theorem shiftReg_lsl : shiftReg .lsl v a c =
    ⟨BitVec.ofNat 32 (v.toNat * 2 ^ a.toNat), a.toNat ≤ 32 && v.getLsbD (32 - a.toNat)⟩ := by
  have h0 := toNat_ne_zero_of_ne h
  unfold shiftReg
  dsimp only
  rw [if_neg h0]
  rcases Nat.lt_trichotomy a.toNat 32 with hlt | heq | hgt
  · rw [if_pos hlt, shiftBy, shiftLeft_eq_ofNat, decide_eq_true hlt.le, Bool.true_and]
  · rw [if_neg (by omega), if_pos heq, ofNat_mul_pow_of_le v (by omega), heq]
    rfl
  · rw [if_neg (by omega), if_neg (by omega), ofNat_mul_pow_of_le v (by omega), decide_eq_false (by omega),
      Bool.false_and]

theorem shiftReg_lsr : shiftReg .lsr v a c =
    ⟨BitVec.ofNat 32 (v.toNat / 2 ^ a.toNat), v.getLsbD (a.toNat - 1)⟩ := by
  have h0 := toNat_ne_zero_of_ne h
  unfold shiftReg
  dsimp only
  rw [if_neg h0]
  rcases Nat.lt_trichotomy a.toNat 32 with hlt | heq | hgt
  · rw [if_pos hlt, shiftBy, ushiftRight_eq_ofNat]
  · rw [if_neg (by omega), if_pos heq, ofNat_div_pow_of_le v (by omega), heq]
  · rw [if_neg (by omega), if_neg (by omega), ofNat_div_pow_of_le v (by omega), BitVec.getLsbD_of_ge v _ (by omega)]

theorem shiftReg_asr : shiftReg .asr v a c =
    ⟨BitVec.ofInt 32 (v.toInt / 2 ^ a.toNat), v.getLsbD (min (a.toNat - 1) 31)⟩ := by
  have h0 := toNat_ne_zero_of_ne h
  unfold shiftReg
  dsimp only
  rw [if_neg h0]
  by_cases hlt : a.toNat < 32
  · rw [if_pos hlt, shiftBy, sshiftRight_eq_ofInt, Nat.min_eq_left (by omega)]
  · rw [if_neg hlt, signFill_eq v (Nat.not_lt.mp hlt), sshiftRight_eq_ofInt, Nat.min_eq_right (by omega)]

theorem shiftReg_ror : shiftReg .ror v a c = ⟨v.rotateRight (a.toNat % 32), v.getLsbD ((a.toNat - 1) % 32)⟩ := by
  have h0 := toNat_ne_zero_of_ne h
  unfold shiftReg
  dsimp only
  rw [if_neg h0]
  by_cases hlt : a.toNat < 32
  · rw [if_pos hlt, shiftBy, Nat.mod_eq_of_lt hlt, Nat.mod_eq_of_lt (by omega)]
  · rw [if_neg hlt]
    by_cases hz : a.toNat % 32 = 0
    · rw [if_pos hz, hz, rotateRight_zero, show (a.toNat - 1) % 32 = 31 by omega]
    · rw [if_neg hz, shiftBy, show (a.toNat - 1) % 32 = a.toNat % 32 - 1 by omega]

end

/-- Settles O21: the register amounts by shift type; an amount of the instruction is a register amount, but 0 stands for 32
or for RRX. -/
theorem barrelShifter : Obligations.BarrelShifter := by
  unfold Obligations.BarrelShifter
  refine ⟨?zero, ?register, ?instruction, ?instructionZero, ?immediate⟩
  case zero => exact fun ty v c => rfl
  case register =>
    exact fun v a c h => ⟨shiftReg_lsl v c h, shiftReg_lsr v c h, shiftReg_asr v c h, shiftReg_ror v c h⟩
  case instruction =>
    intro ty v n c h
    have h0 : n.toNat ≠ 0 := fun e => h (BitVec.eq_of_toNat_eq e)
    have hn : (n.setWidth 8).toNat = n.toNat := by
      rw [BitVec.toNat_setWidth, Nat.mod_eq_of_lt (by omega)]
    unfold shiftImm shiftReg
    dsimp only
    rw [if_neg h, hn, if_neg h0, if_pos n.isLt]
  case instructionZero => exact fun v c => ⟨rfl, rfl, rfl, rfl⟩
  case immediate => exact fun rot imm c => ⟨rfl, rfl, fun h => if_neg h⟩

end Sys2Proof.Machine
end

section
/-! O18: an exception and the return from it (60 R441, R452). -/

namespace Sys2Proof.Machine

-- Elaborated one after the other: side by side, the threads of one large text pass the memory of the check.
set_option Elab.async false

/-! ### Aligned program counters -/

/-- A value is aligned for a state when it is a multiple of the bytes of an instruction (10 R32, R33). -/
theorem alignPc_eq_self_iff (t : Bool) (v : Word) : alignPc t v = v ↔ v.toNat % (if t then 2 else 4) = 0 := by
  have h2 := alignHalf_toNat v
  have h4 := alignWord_toNat v
  cases t
  · rw [alignPc, if_neg (by decide), if_neg (by decide), ← BitVec.toNat_inj, h4]
    omega
  · rw [alignPc, if_pos rfl, if_pos rfl, ← BitVec.toNat_inj, h2]
    omega

/-- The next instruction of an aligned one is aligned. -/
theorem State.pcAligned.next {s : State} (h : s.pcAligned) :
    alignPc s.cpsr.t (s.pc + s.instrBytes) = s.pc + s.instrBytes := by
  rw [State.pcAligned, alignPc_eq_self_iff] at h
  rw [alignPc_eq_self_iff, State.instrBytes, BitVec.toNat_add]
  revert h
  cases s.cpsr.t <;> simp

/-! ### The return -/

section

variable (s : State) (e : Exc) (link : Word)

/-- The handler finds the link in its R14. -/
theorem State.operand_link : (s.enterException e link).operand 14#4 = link := by
  rw [State.operand_eq _ _ (by decide) rfl, State.enterException_getReg]
  exact if_pos (lrOf_eq e.mode).symm

/-- A return from an exception restores the CPSR, and every register but the link, and goes on at an aligned target. -/
theorem State.exceptionReturn_enterException {target : Word} (h : alignPc s.cpsr.t target = target) :
    ∃ u : State, (s.enterException e link).exceptionReturn target = .next u ∧ u.pc = target ∧ u.cpsr = s.cpsr ∧
      s.keepsRegs u [physReg e.mode 14#4] ∧ s.keepsMem u := by
  refine ⟨_, State.exceptionReturn_of_spsr _ (s.spsr_enterException e link) target, h, rfl, ?_, fun _ => rfl⟩
  intro p hp
  rw [State.branch_getReg, State.withCpsr_getReg, State.enterException_getReg, lrOf_eq]
  exact if_neg fun heq => hp (List.mem_singleton.mpr heq)

/-- SUBS PC,R14,#k returns to the link less k. -/
theorem exec_subs_pc (k : BitVec 8) :
    exec (.subImm .al true 14#4 15#4 0#4 k) (s.enterException e link) =
      (s.enterException e link).exceptionReturn (link - (k.setWidth 32).rotateRight 0) := by
  have h := exec_aluInstr_pc (s.enterException e link) .sub .al true 14#4 (.imm 0#4 k) rfl rfl
  refine h.trans ?_
  show State.exceptionReturn _ ((s.enterException e link).operand 14#4 - (k.setWidth 32).rotateRight 0) = _
  rw [State.operand_link]

/-- MOVS PC,R14 returns to the link. -/
theorem exec_movs_pc :
    exec (.movShift .al true 0#4 15#4 0#5 .lsl 14#4) (s.enterException e link) =
      (s.enterException e link).exceptionReturn link := by
  have h := exec_aluInstr_pc (s.enterException e link) .mov .al true 0#4 (.shift 0#5 .lsl 14#4) rfl rfl
  refine h.trans ?_
  show State.exceptionReturn _ ((s.enterException e link).operand 14#4) = _
  rw [State.operand_link]

end

/-- Settles O18. -/
theorem returnResumesProgram : Obligations.ReturnResumesProgram := by
  unfold Obligations.ReturnResumesProgram
  intro s ha
  refine ⟨?interrupts, ?dataAbort, ?traps⟩
  case interrupts =>
    intro e _
    have htarget : s.pc + 4#32 - (BitVec.setWidth 32 4#8).rotateRight 0 = s.pc := BitVec.add_sub_cancel s.pc 4#32
    rw [exec_subs_pc, htarget]
    exact s.exceptionReturn_enterException e _ ha
  case dataAbort =>
    have htarget : s.pc + 8#32 - (BitVec.setWidth 32 8#8).rotateRight 0 = s.pc := BitVec.add_sub_cancel s.pc 8#32
    rw [exec_subs_pc, htarget]
    exact s.exceptionReturn_enterException .dataAbort _ ha
  case traps =>
    intro e _
    rw [exec_movs_pc]
    exact s.exceptionReturn_enterException e _ ha.next

end Sys2Proof.Machine
end

section
/-! O28, O30: MRS, and MSR to the SPSR (42_arm_psr_transfer.md). -/

namespace Sys2Proof.Machine

/-! ### Status register words -/

/-- The twelve defined bits of a status register's word read back (10 R34), whatever the reserved ones are. -/
theorem Psr.ofWord_toWord (p : Psr) (reserved : BitVec 20) : Psr.ofWord (p.toWord reserved) = p := by
  obtain ⟨n, z, c, v, i, f, t, m⟩ := p
  have hm : (Psr.toWord ⟨n, z, c, v, i, f, t, m⟩ reserved).extractLsb' 0 5 = m := by
    apply BitVec.eq_of_getLsbD_eq
    intro k hk
    simp only [Psr.toWord, BitVec.getLsbD_extractLsb', BitVec.getLsbD_append, Nat.zero_add, hk]
    simp [show k < 31 by omega, show k < 30 by omega, show k < 29 by omega, show k < 28 by omega, show k < 8 by omega,
      show k < 7 by omega, show k < 6 by omega]
  unfold Psr.ofWord
  rw [hm]
  simp only [Psr.toWord, BitVec.getLsbD_append, BitVec.getLsbD_ofBool]
  simp

/-! ### MRS -/

section

variable (s : State) {c : Cond} (hc : condPassed c s.cpsr = true)

theorem State.sets_readPsr {s : State} {spsr : Bool} {p : Psr} (h : (if spsr then s.spsr else some s.cpsr) = some p)
    (rd : Reg) : ∃ (t : State) (w : Word), s.readPsr spsr rd = .next t ∧ s.sets t rd w s.cpsr ∧ Psr.ofWord w = p := by
  refine ⟨_, p.toWord (Config.psrReserved s.freeCtr), ?_, s.sets_writeReg rd _, p.ofWord_toWord _⟩
  rw [State.readPsr, h]

theorem State.readPsr_no_spsr {s : State} (h : s.spsr = none) (rd : Reg) : s.readPsr true rd = .fault .noSpsr := by
  rw [State.readPsr, if_pos rfl, h]

include hc

theorem exec_mrs (spsr : Bool) {rd : Reg} (hd : rd ≠ 15#4) : exec (.mrs c spsr rd) s = s.readPsr spsr rd := by
  show execMrs c spsr rd s = _
  rw [execMrs, State.conditional_pass _ _ _ hc, if_neg hd]

end

/-- Settles O28. -/
theorem mrsReadsPsr : Obligations.MrsReadsPsr := by
  unfold Obligations.MrsReadsPsr
  intro s c rd _ hc hd
  rw [exec_mrs s hc false hd, exec_mrs s hc true hd]
  exact ⟨State.sets_readPsr rfl rd, fun p hp => State.sets_readPsr (spsr := true) hp rd, fun hn => State.readPsr_no_spsr hn rd⟩

/-! ### MSR to the SPSR -/

section

variable (s : State) {c : Cond} (hc : condPassed c s.cpsr = true)

theorem State.writeSpsr_no_spsr {s : State} (h : s.spsr = none) (f : Psr → Psr) :
    s.writeSpsr f = .fault .noSpsr := by
  rw [State.writeSpsr, h]

/-- What a write of the SPSR does: it reads back, and no other SPSR, register or byte of memory changes. -/
theorem State.writeSpsr_spec {s : State} {p : Psr} (h : s.spsr = some p) (ht : s.cpsr.t = false) (f : Psr → Psr) :
    ∃ t : State, s.writeSpsr f = .next t ∧ t.spsr = some (f p) ∧ t.cpsr = s.cpsr ∧ t.pc = s.pc + 4#32 ∧
      s.keepsRegs t [] ∧ s.keepsMem t ∧ t.dbg = s.dbg ∧ t.pins = s.pins ∧
      ∀ q : Psr, q.m ≠ s.cpsr.m → (t.withCpsr q).spsr = (s.withCpsr q).spsr := by
  refine ⟨{ s with spsrs := s.spsrs.set s.cpsr.m (f p) }.advance, ?_, ?_, rfl, ?_, fun _ _ => rfl, fun _ => rfl, rfl,
    rfl, ?_⟩
  · rw [State.writeSpsr, h]
  · exact State.spsr_set s _ p (f p) h rfl rfl
  · rw [← State.instrBytes_arm ht]
    rfl
  · intro q hq
    exact State.spsr_of_set_other _ _ s.cpsr.m (f p) rfl hq rfl

include hc

theorem exec_msrReg_spsr {rm : Reg} (hr : rm ≠ 15#4) :
    exec (.msrReg c true rm) s = s.writeSpsr fun _ => Psr.ofWord (s.operand rm) := by
  show execMsrReg c true rm s = _
  rw [execMsrReg, State.conditional_pass _ _ _ hc, if_neg hr, if_pos rfl]

theorem exec_msrFlagsReg_spsr {rm : Reg} (hr : rm ≠ 15#4) :
    exec (.msrFlagsReg c true rm) s = s.writeSpsr fun p => p.withFlags (s.operand rm) := by
  show execMsrFlagsReg c true rm s = _
  rw [execMsrFlagsReg, State.conditional_pass _ _ _ hc, if_neg hr, State.writeFlags, if_pos rfl]

theorem exec_msrFlagsImm_spsr (rot : BitVec 4) (imm : BitVec 8) :
    exec (.msrFlagsImm c true rot imm) s =
      s.writeSpsr fun p => p.withFlags ((imm.setWidth 32 : Word).rotateRight (2 * rot.toNat)) := by
  show execMsrFlagsImm c true rot imm s = _
  rw [execMsrFlagsImm, State.conditional_pass _ _ _ hc, State.writeFlags, if_pos rfl]
  rfl

end

/-- Settles O30: each form is one write of the SPSR. -/
theorem msrWritesSpsr : Obligations.MsrWritesSpsr := by
  unfold Obligations.MsrWritesSpsr
  intro s c rm rot imm ht hc hr
  rw [exec_msrReg_spsr s hc hr, exec_msrFlagsReg_spsr s hc hr, exec_msrFlagsImm_spsr s hc]
  refine ⟨?writes, ?stops⟩
  case writes =>
    exact fun p hp => ⟨State.writeSpsr_spec hp ht _, State.writeSpsr_spec hp ht _, State.writeSpsr_spec hp ht _⟩
  case stops =>
    exact fun hn => ⟨State.writeSpsr_no_spsr hn _, State.writeSpsr_no_spsr hn _, State.writeSpsr_no_spsr hn _⟩

end Sys2Proof.Machine
end

section
/-! O31, O32: the multiplies (43_arm_multiply.md). -/

namespace Sys2Proof.Machine

-- Elaborated one after the other: side by side, the threads of one large text pass the memory of the check.
set_option Elab.async false

/-! ### 32-bit multiplies -/

/-- The end of a 32-bit multiply: with Rd not Rm the result and its N and Z, with Rd = Rm free values (43 R222, R224). -/
theorem State.mulEnd_spec (s : State) (sf : Bool) (rd : Reg) (clash : Bool) (r : Word) :
    ∃ (t : State) (v : Word) (q : Psr), s.mulEnd sf rd clash r = .next t ∧ s.sets t rd v q ∧ (clash = false → v = r) ∧
      (sf = false → q = s.cpsr) ∧ (clash = false → sf = true → q.n = v.getLsbD 31 ∧ q.z = (v == 0#32)) ∧
      q.v = s.cpsr.v ∧ s.cpsr.keepsControl q := by
  cases clash <;> cases sf
  all_goals refine ⟨_, _, _, rfl, s.sets_write rd _ _ rfl, ?_⟩
  · exact ⟨fun _ => rfl, fun _ => rfl, nofun, rfl, rfl, rfl, rfl, rfl⟩
  · exact ⟨fun _ => rfl, nofun, fun _ _ => ⟨rfl, rfl⟩, rfl, rfl, rfl, rfl, rfl⟩
  · exact ⟨nofun, fun _ => rfl, nofun, rfl, rfl, rfl, rfl, rfl⟩
  · exact ⟨nofun, nofun, nofun, rfl, rfl, rfl, rfl, rfl⟩

theorem ofNat_mul_add (a b c : Word) : a * b + c = BitVec.ofNat 32 (a.toNat * b.toNat + c.toNat) := by
  apply BitVec.eq_of_toNat_eq
  rw [BitVec.toNat_add, BitVec.toNat_mul, BitVec.toNat_ofNat, Nat.mod_add_mod]

theorem exec_multiply {s : State} {c : Cond} (hc : condPassed c s.cpsr = true) (acc sf : Bool) {rd rn rs rm : Reg}
    (hd : rd ≠ 15#4) (hs : rs ≠ 15#4) (hm : rm ≠ 15#4) (hn : acc = true → rn ≠ 15#4) :
    exec (if acc then .mla c sf rd rn rs rm else .mul c sf rd rn rs rm) s =
      s.mulEnd sf rd (rd = rm) (s.operand rm * s.operand rs + if acc then s.operand rn else 0#32) := by
  have h : exec (if acc then .mla c sf rd rn rs rm else .mul c sf rd rn rs rm) s =
      s.conditional c fun s => s.multiply acc sf rd rn rs rm := by
    cases acc <;> rfl
  rw [h, State.conditional_pass _ _ _ hc, State.multiply, if_neg (by simpa [hd, hs, hm] using hn)]

/-- Settles O31. -/
theorem multiply : Obligations.Multiply := by
  unfold Obligations.Multiply
  intro s c acc sf rd rn rs rm _ hc hd hs hm hn
  obtain ⟨t, v, q, ht, hsets, hv, hq, hnz, hov, hctl⟩ := s.mulEnd_spec sf rd (rd = rm)
    (s.operand rm * s.operand rs + if acc then s.operand rn else 0#32)
  refine ⟨t, v, q, (exec_multiply hc acc sf hd hs hm hn).trans ht, hsets, ?_, hq, ?_, hov, hctl⟩
  · intro hne
    rw [hv (decide_eq_false hne), ofNat_mul_add]
    cases acc <;> rfl
  · exact fun hne => hnz (decide_eq_false hne)

/-! ### Long multiplies -/

/-- The product of a long multiply is the exact one modulo 2^64 (43 R229 to R232). -/
theorem longProduct_eq (op : LongOp) (m r hi lo : Word) :
    longProduct op m r hi lo = BitVec.ofInt 64 (op.exact m r (hi ++ lo)) := by
  have hu : m.setWidth 64 * r.setWidth 64 = BitVec.ofInt 64 ((m.toNat : Int) * r.toNat) := by
    rw [BitVec.ofInt_mul, BitVec.ofInt_natCast, BitVec.ofInt_natCast, BitVec.ofNat_toNat, BitVec.ofNat_toNat]
  have hs : m.signExtend 64 * r.signExtend 64 = BitVec.ofInt 64 (m.toInt * r.toInt) := by
    rw [BitVec.ofInt_mul]
    rfl
  cases op with
  | umull => exact hu
  | umlal =>
    show _ = BitVec.ofInt 64 ((m.toNat : Int) * r.toNat + (hi ++ lo).toNat)
    rw [BitVec.ofInt_add, ← hu, BitVec.ofInt_natCast, BitVec.ofNat_toNat, BitVec.setWidth_eq]
    rfl
  | smull => exact hs
  | smlal =>
    show _ = BitVec.ofInt 64 (m.toInt * r.toInt + (hi ++ lo).toInt)
    rw [BitVec.ofInt_add, ← hs, BitVec.ofInt_toInt]
    rfl

theorem exec_multiplyLong {s : State} {c : Cond} (hc : condPassed c s.cpsr = true) (op : LongOp) (sf : Bool)
    {hi lo rs rm : Reg} (hh : hi ≠ 15#4) (hl : lo ≠ 15#4) (hs : rs ≠ 15#4) (hm : rm ≠ 15#4) :
    exec (.mulLong op c sf hi lo rs rm) s = s.mulLongEnd sf hi lo (hi = lo || hi = rm || lo = rm)
      (BitVec.ofInt 64 (op.exact (s.operand rm) (s.operand rs) (s.operand hi ++ s.operand lo))) := by
  rw [exec_mulLong, State.conditional_pass _ _ _ hc, State.multiplyLong, if_neg (by simp [hh, hl, hs, hm]),
    longProduct_eq]

theorem extractLsb'_append_self (v : BitVec 64) : v.extractLsb' 32 32 ++ v.extractLsb' 0 32 = v :=
  (BitVec.extractLsb'_append_extractLsb'_eq_extractLsb' (by decide)).trans BitVec.extractLsb'_eq_self

/-- The end of a long multiply: with three different registers the result and its N and Z, else free values (43 R228,
R233). -/
theorem State.mulLongEnd_spec (s : State) (sf : Bool) (hi lo : Reg) (clash : Bool) (r : BitVec 64) :
    ∃ (v : BitVec 64) (q : Psr), s.mulLongEnd sf hi lo clash r =
        .next (((s.writeReg lo (v.extractLsb' 0 32)).writeReg hi (v.extractLsb' 32 32)).withCpsr q).advance ∧
      (clash = false → v = r) ∧ (sf = false → q = s.cpsr) ∧
      (clash = false → sf = true → q.n = v.getLsbD 63 ∧ q.z = (v == 0#64)) ∧ s.cpsr.keepsControl q := by
  cases clash <;> cases sf
  all_goals refine ⟨_, _, rfl, ?_⟩
  · exact ⟨fun _ => rfl, fun _ => rfl, nofun, rfl, rfl, rfl, rfl⟩
  · exact ⟨fun _ => rfl, nofun, fun _ _ => ⟨rfl, rfl⟩, rfl, rfl, rfl, rfl⟩
  · exact ⟨nofun, fun _ => rfl, nofun, rfl, rfl, rfl, rfl⟩
  · exact ⟨nofun, nofun, nofun, rfl, rfl, rfl, rfl⟩

/-- The state after a long multiply, whatever is written to the pair and to the flags. -/
theorem State.frame_writePair (s : State) (hi lo : Reg) (x y : Word) (q : Psr) (hq : q.t = s.cpsr.t) :
    (((s.writeReg lo y).writeReg hi x).withCpsr q).advance.pc = s.pc + s.instrBytes ∧
      s.frame (((s.writeReg lo y).writeReg hi x).withCpsr q).advance [physReg s.cpsr.m hi, physReg s.cpsr.m lo] := by
  refine ⟨?_, ?_, fun _ => rfl, rfl, rfl, rfl⟩
  · rw [State.advance_pc, State.instrBytes, State.instrBytes, State.withCpsr_cpsr, hq]
    rfl
  · intro p hp
    simp only [List.mem_cons, List.not_mem_nil, or_false, not_or] at hp
    simp [hp.1, hp.2]

/-- The pair holds the 64-bit value written, where its registers are two. -/
theorem State.getReg_writePair (s : State) {hi lo : Reg} (hh : hi ≠ 15#4) (hl : lo ≠ 15#4) (hne : hi ≠ lo)
    (v : BitVec 64) (q : Psr) :
    let t := (((s.writeReg lo (v.extractLsb' 0 32)).writeReg hi (v.extractLsb' 32 32)).withCpsr q).advance
    t.getReg (physReg s.cpsr.m hi) ++ t.getReg (physReg s.cpsr.m lo) = v := by
  have hp : physReg s.cpsr.m lo ≠ physReg s.cpsr.m hi := fun h => hne (physReg_injective _ _ _ hl hh h).symm
  simp only [State.advance_getReg, State.withCpsr_getReg, State.writeReg_getReg, State.writeReg_cpsr, hp, if_true,
    if_false]
  exact extractLsb'_append_self v

/-- Settles O32. -/
theorem longMultiply : Obligations.LongMultiply := by
  unfold Obligations.LongMultiply
  intro s op c sf hi lo rs rm ht hc hh hl hs hm
  obtain ⟨v, q, hend, hv, hq, hnz, hctl⟩ := s.mulLongEnd_spec sf hi lo (hi = lo || hi = rm || lo = rm)
    (BitVec.ofInt 64 (op.exact (s.operand rm) (s.operand rs) (s.operand hi ++ s.operand lo)))
  have hexec := (exec_multiplyLong hc op sf hh hl hs hm).trans hend
  obtain ⟨hpc, hframe⟩ := s.frame_writePair hi lo (v.extractLsb' 32 32) (v.extractLsb' 0 32) q hctl.2.2.1
  rw [State.instrBytes_arm ht] at hpc
  refine ⟨_, hexec, hpc, hframe, hq, hctl, ?_⟩
  intro hne hhm hlm
  have hclash : (decide (hi = lo) || decide (hi = rm) || decide (lo = rm)) = false := by simp [hne, hhm, hlm]
  rw [← hv hclash]
  exact ⟨s.getReg_writePair hh hl hne v q, hnz hclash⟩

end Sys2Proof.Machine
end

section
/-! O33, O35: the branches (40_arm_branch.md, 49_thumb_branch.md). -/

namespace Sys2Proof.Machine

-- Elaborated one after the other: side by side, the threads of one large text pass the memory of the check.
set_option Elab.async false

/-! ### Offsets -/

/-- Zeros appended below multiply the signed value. -/
theorem toInt_append_zero {n k : Nat} (x : BitVec n) : (x ++ 0#k).toInt = x.toInt * 2 ^ k := by
  have hlt : 2 * (x.toNat * 2 ^ k) < 2 ^ (n + k) ↔ 2 * x.toNat < 2 ^ n := by
    rw [pow_add, ← Nat.mul_assoc]
    exact Nat.mul_lt_mul_right (Nat.two_pow_pos k)
  rw [BitVec.toInt_eq_toNat_cond, BitVec.toInt_eq_toNat_cond, BitVec.toNat_append, BitVec.toNat_ofNat, Nat.zero_mod,
    Nat.or_zero, Nat.shiftLeft_eq]
  simp only [hlt]
  split
  · norm_cast
  · rw [pow_add]
    push_cast
    ring

theorem branchOffset_eq (off : BitVec 24) : branchOffset off = BitVec.ofInt 32 (4 * off.toInt) := by
  rw [branchOffset, BitVec.signExtend, toInt_append_zero, Int.mul_comm]
  rfl

theorem halfwordOffset_eq {n : Nat} (off : BitVec n) : halfwordOffset off = BitVec.ofInt 32 (2 * off.toInt) := by
  rw [halfwordOffset, BitVec.signExtend, toInt_append_zero, Int.mul_comm]
  rfl

/-- The offset of the first half of BL counts units of 4096 bytes (49 R416). -/
theorem blHighOffset_eq (off : BitVec 11) : off.signExtend 32 <<< 12 = BitVec.ofInt 32 (4096 * off.toInt) := by
  rw [BitVec.shiftLeft_eq_mul_twoPow, BitVec.ofInt_mul, BitVec.mul_comm]
  rfl

/-- The offset of the second half counts halfwords (49 R417). -/
theorem blLowOffset_eq (off : BitVec 11) : (off.setWidth 32 : Word) <<< 1 = BitVec.ofNat 32 (2 * off.toNat) := by
  apply BitVec.eq_of_toNat_eq
  have h := off.isLt
  rw [BitVec.toNat_shiftLeft, BitVec.toNat_setWidth, BitVec.toNat_ofNat, Nat.shiftLeft_eq]
  omega

/-! ### B and BL -/

/-- A branch after a write of R14: the frame of BL and of its second half. -/
theorem State.frame_link (s : State) (link v : Word) :
    s.frame ((s.writeReg 14#4 link).branch v) [physReg s.cpsr.m 14#4] := by
  refine ⟨?_, fun _ => rfl, rfl, rfl, rfl⟩
  intro p hp
  rw [State.branch_getReg, State.writeReg_getReg, if_neg fun h => hp (List.mem_singleton.mpr h)]

theorem State.getReg_link (s : State) (link v : Word) :
    ((s.writeReg 14#4 link).branch v).getReg (physReg s.cpsr.m 14#4) = link := by
  rw [State.branch_getReg, State.writeReg_getReg, if_pos rfl]

theorem exec_b {s : State} {c : Cond} (hc : condPassed c s.cpsr = true) (off : BitVec 24) :
    exec (.b c off) s = .next (s.branch (s.pc + 8#32 + BitVec.ofInt 32 (4 * off.toInt))) := by
  show execB c off s = _
  rw [execB, State.conditional_pass _ _ _ hc, branchOffset_eq]

theorem exec_bl {s : State} {c : Cond} (hc : condPassed c s.cpsr = true) (off : BitVec 24) :
    exec (.bl c off) s = .next ((s.writeReg 14#4 (s.pc + 4#32)).branch
      (s.pc + 8#32 + BitVec.ofInt 32 (4 * off.toInt))) := by
  show execBl c off s = _
  rw [execBl, State.conditional_pass _ _ _ hc, branchOffset_eq]

/-- Settles O33. -/
theorem armBranches : Obligations.ArmBranches := by
  unfold Obligations.ArmBranches
  intro s c off ht hc
  refine ⟨⟨_, exec_b hc off, s.jumps_branch_self _⟩, _, exec_bl hc off, s.getReg_link _ _, rfl, ?_, rfl, s.frame_link _ _⟩
  rw [State.branch_pc, State.writeReg_cpsr, ht]
  rfl

/-! ### THUMB branches -/

theorem exec_tBcond (k : ThumbCond) (off : BitVec 8) (s : State) :
    exec (.tBcond k off) s = s.thumbBranchIf k.toCond off := by
  cases k <;> rfl

theorem exec_tB (off : BitVec 11) (s : State) :
    exec (.tB off) s = .next (s.branch (s.pc + 4#32 + BitVec.ofInt 32 (2 * off.toInt))) := by
  rw [← halfwordOffset_eq]
  rfl

theorem exec_tBlHigh (off : BitVec 11) (s : State) :
    exec (.tBlHigh off) s =
      .next (s.writeReg 14#4 (s.pc + 4#32 + BitVec.ofInt 32 (4096 * off.toInt))).advance := by
  rw [← blHighOffset_eq]
  rfl

theorem exec_tBlLow (off : BitVec 11) (s : State) :
    exec (.tBlLow off) s = .next ((s.writeReg 14#4 ((s.pc + 2#32) ||| 1#32)).branch
      (s.operand 14#4 + BitVec.ofNat 32 (2 * off.toNat))) := by
  rw [← blLowOffset_eq]
  rfl

theorem State.operand_writeReg_advance (s : State) {r : Reg} (hr : r ≠ 15#4) (v : Word) :
    (s.writeReg r v).advance.operand r = v := by
  rw [State.operand_eq _ _ hr rfl, State.advance_getReg, State.writeReg_getReg]
  exact if_pos rfl

/-- The target of a BL pair is even, so aligning it for THUMB state does nothing. -/
theorem alignPc_blTarget {pc : Word} (h : alignPc true pc = pc) (x : Int) (y : Nat) :
    alignPc true (pc + 4#32 + BitVec.ofInt 32 (4096 * x) + BitVec.ofNat 32 (2 * y)) =
      pc + 4#32 + BitVec.ofInt 32 (4096 * x + 2 * y) := by
  have hsum : BitVec.ofInt 32 (4096 * x + 2 * y) = BitVec.ofInt 32 (4096 * x) + BitVec.ofNat 32 (2 * y) := by
    rw [BitVec.ofInt_add, ← BitVec.ofInt_natCast]
    rfl
  rw [hsum, ← BitVec.add_assoc, alignPc_eq_self_iff, if_pos rfl]
  rw [alignPc_eq_self_iff, if_pos rfl] at h
  simp only [BitVec.toNat_add, BitVec.toNat_ofInt, BitVec.toNat_ofNat]
  omega

/-- Settles O35. -/
theorem thumbBranches : Obligations.ThumbBranches := by
  unfold Obligations.ThumbBranches
  refine ⟨?conditional, ?always, ?high, ?low, ?pair⟩
  case conditional =>
    intro s k off ht
    rw [exec_tBcond, State.thumbBranchIf, halfwordOffset_eq]
    constructor
    · intro hc
      exact ⟨_, congrArg _ (if_pos hc), s.jumps_branch_self _⟩
    · intro hc
      exact ⟨_, congrArg _ (if_neg (Bool.not_eq_true _ ▸ hc)), s.setsFlags_advance s.cpsr rfl⟩
  case always => exact fun s off ht => ⟨_, exec_tB off s, s.jumps_branch_self _⟩
  case high => exact fun s off ht => ⟨_, exec_tBlHigh off s, s.sets_writeReg _ _⟩
  case low =>
    intro s off ht
    refine ⟨_, exec_tBlLow off s, s.getReg_link _ _, ?_, rfl, rfl, s.frame_link _ _⟩
    rw [State.branch_pc, State.writeReg_cpsr, ht]
    rfl
  case pair =>
    intro s hi lo ht ha
    rw [State.pcAligned, ht] at ha
    refine ⟨_, _, exec_tBlHigh hi s, exec_tBlLow lo _, ?_, ?_⟩
    · rw [s.operand_writeReg_advance (by decide), State.branch_pc, State.writeReg_cpsr, State.advance_cpsr,
        State.writeReg_cpsr, ht]
      exact alignPc_blTarget ha _ _
    · refine (State.getReg_link _ _ _).trans ?_
      rw [State.advance_pc, State.writeReg_pc]
      show s.pc + s.instrBytes + 2#32 ||| 1#32 = _
      rw [State.instrBytes_thumb ht, BitVec.add_assoc]
      rfl

end Sys2Proof.Machine
end

section
/-! O50 to O53: the THUMB register operations (47_thumb_alu.md). -/

namespace Sys2Proof.Machine

-- Elaborated one after the other: side by side, the threads of one large text pass the memory of the check.
set_option Elab.async false

/-! ### The ends of a THUMB operation -/

section

variable (s : State) (rd : LoReg) (a : Word) (b : Shifted)

/-- A logical operation of Formats 1 to 4 completes: the result, N and Z of it, C of the shifter. -/
theorem State.thumbSet_logical (op : AluOp) (h : op.isLogical = true) :
    ∃ t : State, s.thumbSet rd (aluOut op s.cpsr a b) = .next t ∧
      s.sets t (loReg rd) (op.result a b.value s.cpsr.c)
        (s.cpsr.afterLogical (op.result a b.value s.cpsr.c) b.carry) := by
  refine ⟨_, rfl, ?_⟩
  rw [aluOut_value, aluOut_logical op s.cpsr a b h]
  exact s.sets_write _ _ _ rfl

/-- An arithmetic operation completes: the result and the arithmetic flags. -/
theorem State.thumbSet_arith (op : AluOp) (h : op.isLogical = false) :
    ∃ (t : State) (q : Psr), s.thumbSet rd (aluOut op s.cpsr a b) = .next t ∧
      s.sets t (loReg rd) (op.result a b.value s.cpsr.c) q ∧ s.cpsr.afterArith q op a b.value := by
  refine ⟨_, _, rfl, ?_, aluOut_arith op s.cpsr a b h⟩
  rw [aluOut_value]
  exact s.sets_write _ _ _ (aluOut_t _ _ _ _)

/-- A comparison completes: the arithmetic flags. -/
theorem State.thumbTest_arith (op : TestOp) (h : op.alu.isLogical = false) :
    ∃ (t : State) (q : Psr), s.thumbTest (testOut op s.cpsr a b) = .next t ∧ s.setsFlags t q ∧
      s.cpsr.afterArith q op.alu a b.value := by
  rw [testOut_eq]
  exact ⟨_, _, rfl, s.setsFlags_advance _ (aluOut_t _ _ _ _), aluOut_arith op.alu s.cpsr a b h⟩

end

/-- Settles O50: each instruction ends as its operation's `State.thumbSet` or `State.thumbTest` says. -/
theorem thumbFormats123 : Obligations.ThumbFormats123 := by
  unfold Obligations.ThumbFormats123
  intro s _
  refine ⟨?format1, ?format2, ?format3⟩
  case format1 =>
    exact fun off rs rd => ⟨s.thumbSet_logical rd _ _ .mov rfl, s.thumbSet_logical rd _ _ .mov rfl,
      s.thumbSet_logical rd _ _ .mov rfl⟩
  case format2 =>
    exact fun rn rs rd off => ⟨s.thumbSet_arith rd _ (s.plain _) .add rfl, s.thumbSet_arith rd _ (s.plain _) .sub rfl,
      s.thumbSet_arith rd _ (s.plain _) .add rfl, s.thumbSet_arith rd _ (s.plain _) .sub rfl⟩
  case format3 =>
    exact fun rd off => ⟨s.thumbSet_logical rd _ (s.plain _) .mov rfl, s.thumbTest_arith _ (s.plain _) .cmp rfl,
      s.thumbSet_arith rd _ (s.plain _) .add rfl, s.thumbSet_arith rd _ (s.plain _) .sub rfl⟩

/-! ### Format 4 -/

theorem exec_tTst (s : State) (rs rd : LoReg) : exec (.tTst rs rd) s =
    .next (s.withCpsr (s.cpsr.afterLogical (s.operand (loReg rd) &&& s.operand (loReg rs)) s.cpsr.c)).advance := rfl

/-- NEG is a difference from zero (47 R340). -/
theorem exec_tNeg (s : State) (rs rd : LoReg) :
    ∃ (t : State) (q : Psr), exec (.tNeg rs rd) s = .next t ∧ s.sets t (loReg rd) (-s.operand (loReg rs)) q ∧
      s.cpsr.afterArith q .sub 0#32 (s.operand (loReg rs)) := by
  obtain ⟨t, q, ht, hsets, hq⟩ := s.thumbSet_arith rd (s.operand (loReg rs)) (s.plain 0#32) .rsb rfl
  exact ⟨t, q, ht, BitVec.zero_sub (s.operand (loReg rs)) ▸ hsets, hq⟩

theorem exec_tMul (s : State) (rs rd : LoReg) :
    ∃ (t : State) (v : Word) (q : Psr), exec (.tMul rs rd) s = .next t ∧ s.sets t (loReg rd) v q ∧
      (rs ≠ rd → v = BitVec.ofNat 32 ((s.operand (loReg rs)).toNat * (s.operand (loReg rd)).toNat) ∧
        q.n = v.getLsbD 31 ∧ q.z = (v == 0#32)) ∧
      q.v = s.cpsr.v ∧ s.cpsr.keepsControl q := by
  obtain ⟨t, v, q, ht, hsets, hv, -, hnz, hov, hctl⟩ := s.mulEnd_spec true (loReg rd) (rs = rd)
    (s.operand (loReg rs) * s.operand (loReg rd))
  refine ⟨t, v, q, ht, hsets, fun hne => ⟨?_, hnz (decide_eq_false hne) rfl⟩, hov, hctl⟩
  rw [hv (decide_eq_false hne), ← BitVec.add_zero (_ * _), ofNat_mul_add]
  rfl

/-- Settles O51. -/
theorem thumbFormat4 : Obligations.ThumbFormat4 := by
  unfold Obligations.ThumbFormat4
  intro s rs rd _
  dsimp only
  refine ⟨?and, ?eor, ?orr, ?bic, ?mvn, ?lsl, ?lsr, ?asr, ?ror, ?tst, ?adc, ?sbc, ?neg, ?cmp, ?cmn, ?mul⟩
  case and => exact s.thumbSet_logical rd _ (s.plain _) .and rfl
  case eor => exact s.thumbSet_logical rd _ (s.plain _) .eor rfl
  case orr => exact s.thumbSet_logical rd _ (s.plain _) .orr rfl
  case bic => exact s.thumbSet_logical rd _ (s.plain _) .bic rfl
  case mvn => exact s.thumbSet_logical rd _ (s.plain _) .mvn rfl
  case lsl | lsr | asr | ror => exact s.thumbSet_logical rd _ _ .mov rfl
  case tst => exact ⟨_, exec_tTst s rs rd, s.setsFlags_advance _ rfl⟩
  case adc => exact s.thumbSet_arith rd _ (s.plain _) .adc rfl
  case sbc => exact s.thumbSet_arith rd _ (s.plain _) .sbc rfl
  case neg => exact exec_tNeg s rs rd
  case cmp => exact s.thumbTest_arith _ (s.plain _) .cmp rfl
  case cmn => exact s.thumbTest_arith _ (s.plain _) .cmn rfl
  case mul => exact exec_tMul s rs rd

/-! ### Format 5 -/

/-- The end of a THUMB instruction that writes any register: the register, or the PC for R15. -/
theorem State.finish_goes (s : State) (i : Instr) (d : Reg) (v : Word) (h : exec i s = .next (s.finish d v)) :
    (d ≠ 15#4 → ∃ t : State, exec i s = .next t ∧ s.sets t d v s.cpsr) ∧
      (d = 15#4 → ∃ t : State, exec i s = .next t ∧ s.jumps t v s.cpsr) := by
  rw [h]
  constructor
  · intro hd
    exact ⟨_, rfl, by rw [State.finish_eq, if_neg hd]; exact s.sets_writeReg d v⟩
  · intro hd
    exact ⟨_, rfl, by rw [State.finish_eq, if_pos hd]; exact s.jumps_branch_self v⟩

theorem exec_hiAdd {s : State} {i : Instr} {d a : Reg} (h : i.hiAdd = some (d, a)) :
    exec i s = .next (s.finish d (s.operand d + s.operand a)) := by
  cases i with
  | tAddLoHi | tAddHiLo | tAddHiHi => cases h; rfl
  | _ => cases h

theorem exec_hiMov {s : State} {i : Instr} {d a : Reg} (h : i.hiMov = some (d, a)) :
    exec i s = .next (s.finish d (s.operand a)) := by
  cases i with
  | tMovLoHi | tMovHiLo | tMovHiHi => cases h; rfl
  | _ => cases h

theorem exec_hiCmp {s : State} {i : Instr} {d a : Reg} (h : i.hiCmp = some (d, a)) :
    exec i s = s.thumbTest (testOut .cmp s.cpsr (s.operand d) (s.plain (s.operand a))) := by
  cases i with
  | tCmpLoHi | tCmpHiLo | tCmpHiHi => cases h; rfl
  | _ => cases h

/-- Settles O52. -/
theorem thumbHiRegisters : Obligations.ThumbHiRegisters := by
  unfold Obligations.ThumbHiRegisters
  intro s i d a _
  refine ⟨fun h => s.finish_goes i d _ (exec_hiAdd h), fun h => s.finish_goes i d _ (exec_hiMov h), ?_⟩
  intro h
  rw [exec_hiCmp h]
  exact s.thumbTest_arith _ (s.plain _) .cmp rfl

/-! ### Formats 12 and 13 -/

/-- A scaled immediate of up to eight bits. -/
theorem four_mul_setWidth {n : Nat} (x : BitVec n) (h : n ≤ 8) :
    4#32 * x.setWidth 32 = BitVec.ofNat 32 (4 * x.toNat) := by
  have hx : x.toNat < 256 := x.isLt.trans_le (Nat.pow_le_pow_right (by decide) h)
  apply BitVec.eq_of_toNat_eq
  rw [BitVec.toNat_mul, BitVec.toNat_setWidth, BitVec.toNat_ofNat, BitVec.toNat_ofNat]
  omega

/-- Settles O53. -/
theorem thumbAddressArithmetic : Obligations.ThumbAddressArithmetic := by
  unfold Obligations.ThumbAddressArithmetic
  intro s rd imm k _
  rw [← four_mul_setWidth imm (by decide), ← four_mul_setWidth k (by decide)]
  exact ⟨(s.finish_goes _ (loReg rd) _ rfl).1 (loReg_ne rd), (s.finish_goes _ (loReg rd) _ rfl).1 (loReg_ne rd),
    (s.finish_goes _ 13#4 _ rfl).1 (by decide), (s.finish_goes _ 13#4 _ rfl).1 (by decide)⟩

end Sys2Proof.Machine
end

section
/-! O5 to O7: the condition field, and which instructions are refused (93_implementation_defined.md). -/

namespace Sys2Proof.Machine

-- Elaborated one after the other: side by side, the threads of one large text pass the memory of the check.
set_option Elab.async false

/-! ### Refusals -/

/-- The outcome is a refusal. -/
def Result.refuses (r : Result) : Prop := ∃ e : Refusal, r = .refused e

@[simp] theorem Result.refuses_next (t : State) : ¬ Result.refuses (.next t) := nofun

@[simp] theorem Result.refuses_fault (f : Fault) : ¬ Result.refuses (.fault f) := nofun

@[simp] theorem Result.refuses_refused (e : Refusal) : Result.refuses (.refused e) := ⟨e, rfl⟩

/-- What is not a refusal goes on, or ends in one of the five faults there are. -/
theorem Result.runs_of_not_refuses {r : Result} (h : ¬ r.refuses) :
    (∃ t : State, r = .next t) ∨ r = .fault .stateBitChanged ∨ r = .fault .noSpsr ∨ r = .fault .oddHalfwordStore ∨
      r = .fault .userBankInUserMode ∨ r = .fault .bxPcMisaligned := by
  cases r with
  | next t => exact .inl ⟨t, rfl⟩
  | fault f => cases f <;> simp
  | refused e => exact absurd (Result.refuses_refused e) h

section

variable (s : State)

theorem State.conditional_refuses {c : Cond} (hc : condPassed c s.cpsr = true) (k : State → Result) :
    Result.refuses (s.conditional c k) ↔ Result.refuses (k s) := by
  rw [State.conditional_pass _ _ _ hc]

/-- A refusal for a stated reason, and otherwise an operation that refuses nothing. -/
theorem refuses_ite {p : Prop} [Decidable p] {e : Refusal} {r : Result} (h : ¬ r.refuses) :
    Result.refuses (if p then .refused e else r) ↔ p := by
  split
  · next hp => exact iff_of_true (Result.refuses_refused e) hp
  · next hp => exact iff_of_false h hp

@[simp] theorem State.exceptionReturn_refuses (v : Word) : ¬ Result.refuses (s.exceptionReturn v) := by
  unfold State.exceptionReturn
  split <;> simp

/-! ### Operations of the ARM set -/

theorem State.dataOp_refuses {c : Cond} (hc : condPassed c s.cpsr = true) (op : AluOp) (sf : Bool) (rn rd : Reg)
    (o : Op2) : Result.refuses (s.dataOp op c sf rn rd o) ↔ (!o.excluded) = false := by
  rw [Bool.not_eq_false']
  refine (s.conditional_refuses hc _).trans (refuses_ite ?_)
  dsimp only
  split
  · split <;> simp
  · simp

theorem State.testOp_refuses {c : Cond} (hc : condPassed c s.cpsr = true) (op : TestOp) (rn rd : Reg) (o : Op2) :
    Result.refuses (s.testOp op c rn rd o) ↔ (!o.excluded) = false := by
  rw [Bool.not_eq_false']
  refine (s.conditional_refuses hc _).trans (refuses_ite ?_)
  split
  · unfold State.testP
    split
    · simp
    · split
      · simp
      · split <;> simp
  · simp

@[simp] theorem State.writeSpsr_refuses (f : Psr → Psr) : ¬ Result.refuses (s.writeSpsr f) := by
  unfold State.writeSpsr
  split <;> simp

@[simp] theorem State.writeFlags_refuses (spsr : Bool) (w : Word) : ¬ Result.refuses (s.writeFlags spsr w) := by
  unfold State.writeFlags
  split <;> simp

@[simp] theorem State.writeCpsr_refuses (w : Word) : ¬ Result.refuses (s.writeCpsr w) := by
  unfold State.writeCpsr
  split
  · split <;> simp
  · simp

@[simp] theorem State.readPsr_refuses (spsr : Bool) (rd : Reg) : ¬ Result.refuses (s.readPsr spsr rd) := by
  unfold State.readPsr
  split <;> simp

@[simp] theorem State.mulEnd_refuses (sf : Bool) (rd : Reg) (clash : Bool) (r : Word) :
    ¬ Result.refuses (s.mulEnd sf rd clash r) := nofun

/-- The register operands that MUL and MLA allow (43 R224). -/
def multiplyDefined (acc : Bool) (rd rn rs rm : Reg) : Bool :=
  match acc with
  | false => rd != 15#4 && rs != 15#4 && rm != 15#4
  | true => rd != 15#4 && rn != 15#4 && rs != 15#4 && rm != 15#4

theorem State.multiply_refuses (acc sf : Bool) (rd rn rs rm : Reg) :
    Result.refuses (s.multiply acc sf rd rn rs rm) ↔ multiplyDefined acc rd rn rs rm = false := by
  refine (refuses_ite (s.mulEnd_refuses _ _ _ _)).trans ?_
  rw [← Bool.not_eq_true, ← not_iff_not]
  cases acc
  · simp [multiplyDefined, and_assoc]
  · simp [multiplyDefined]
    tauto

theorem State.multiplyLong_refuses (op : LongOp) (sf : Bool) (hi lo rs rm : Reg) :
    Result.refuses (s.multiplyLong op sf hi lo rs rm) ↔
      (hi != 15#4 && lo != 15#4 && rs != 15#4 && rm != 15#4) = false := by
  refine (refuses_ite (Result.refuses_next _)).trans ?_
  rw [← Bool.not_eq_true, ← not_iff_not]
  simp [and_assoc]

@[simp] theorem State.thumbExchange_refuses (r : Reg) : ¬ Result.refuses (s.thumbExchange r) := by
  unfold State.thumbExchange
  split <;> simp

/-! ### Transfers -/

@[simp] theorem State.loadInto_refuses (k : LoadKind) (p : Bool) (rd : Reg) (a : Word) :
    ¬ Result.refuses (s.loadInto k p rd a) := by
  unfold State.loadInto
  split <;> simp

@[simp] theorem State.storeFrom_refuses (z : Size) (p : Bool) (a v : Word) : ¬ Result.refuses (s.storeFrom z p a v) := by
  unfold State.storeFrom
  split
  · simp
  · split <;> simp

/-- The operands that single transfers allow (44 R237, R244). -/
def singleDefined (p w : Bool) (rn : Reg) : Option Reg → Bool
  | none => !((!p || w) && rn == 15#4)
  | some rm => !((!p || w) && rn == 15#4) && rm != 15#4

theorem singleDefined_iff (p w : Bool) (rn : Reg) (rm : Option Reg) : singleDefined p w rn rm = true ↔
    ¬ ((!p || w) && decide (rn = 15#4)) = true ∧ rm ≠ some 15#4 := by
  cases rm <;> cases p <;> cases w <;> simp [singleDefined]

/-- Two exclusions one after the other, and otherwise an operation that refuses nothing. -/
theorem refuses_ite_ite {p q : Prop} [Decidable p] [Decidable q] {e e' : Refusal} {r : Result} (h : ¬ r.refuses)
    {b : Bool} (hb : b = true ↔ ¬ p ∧ ¬ q) :
    Result.refuses (if p then .refused e else if q then .refused e' else r) ↔ b = false := by
  rw [← Bool.not_eq_true, hb]
  split_ifs <;> simp_all

theorem State.loadSingle_refuses (k : LoadKind) (unpriv p u w : Bool) (rn rd : Reg) (o : Offset) :
    Result.refuses (s.loadSingle k unpriv p u w rn rd o) ↔ singleDefined p w rn o.rm? = false :=
  refuses_ite_ite (State.loadInto_refuses _ _ _ _ _) (singleDefined_iff _ _ _ _)

theorem State.storeSingle_refuses (z : Size) (unpriv p u w : Bool) (rn rd : Reg) (o : Offset) :
    Result.refuses (s.storeSingle z unpriv p u w rn rd o) ↔ singleDefined p w rn o.rm? = false :=
  refuses_ite_ite (State.storeFrom_refuses _ _ _ _ _) (singleDefined_iff _ _ _ _)

/-- The operands that halfword and signed transfers allow (44 R253, R259). -/
def halfDefined (p w : Bool) (rn : Reg) : Option Reg → Bool
  | none => !(!p && w) && !((!p || w) && rn == 15#4)
  | some rm => !(!p && w) && !((!p || w) && rn == 15#4) && rm != 15#4

theorem halfDefined_iff (p w : Bool) (rn : Reg) (o : HalfOffset) :
    halfDefined p w rn o.rm? = true ↔ halfExcluded p w rn o = none := by
  unfold halfExcluded
  cases o.rm? <;> cases p <;> cases w <;> by_cases hn : rn = 15#4 <;> simp [halfDefined, hn]

/-- A refusal where the form is excluded, and otherwise an operation that refuses nothing. -/
theorem refuses_iff_of_excluded {e : Option Refusal} {r : Result} {b : Bool} (hb : b = true ↔ e = none)
    (hs : ∀ x : Refusal, e = some x → r = .refused x) (hn : e = none → ¬ r.refuses) : r.refuses ↔ b = false := by
  rw [← Bool.not_eq_true, hb]
  cases e with
  | none => simpa using hn
  | some x => simp [hs x rfl]

theorem State.loadHalf_refuses (k : LoadKind) (p u w : Bool) (rn rd : Reg) (o : HalfOffset) :
    Result.refuses (s.loadHalf k p u w rn rd o) ↔ halfDefined p w rn o.rm? = false := by
  refine refuses_iff_of_excluded (halfDefined_iff p w rn o) (fun x h => ?_) fun h => ?_
  · rw [State.loadHalf, h]
  · rw [State.loadHalf, h]
    exact State.loadInto_refuses _ _ _ _ _

theorem State.storeHalf_refuses (p u w : Bool) (rn rd : Reg) (o : HalfOffset) :
    Result.refuses (s.storeHalf p u w rn rd o) ↔ halfDefined p w rn o.rm? = false := by
  refine refuses_iff_of_excluded (halfDefined_iff p w rn o) (fun x h => ?_) fun h => ?_
  · rw [State.storeHalf, h]
  · rw [State.storeHalf, h]
    exact State.storeFrom_refuses _ _ _ _ _

theorem blockExcluded_eq_none_iff (userBank w : Bool) (rn : Reg) (list : BitVec 16) :
    (list != 0#16 && rn != 15#4 && !(userBank && w)) = true ↔ blockExcluded userBank w rn list = none := by
  unfold blockExcluded
  by_cases hl : list = 0#16 <;> by_cases hn : rn = 15#4 <;> cases userBank <;> cases w <;> simp [hl, hn]

theorem State.loadMultiple_refuses (p u sf w : Bool) (rn : Reg) (list : BitVec 16) :
    Result.refuses (s.loadMultiple p u sf w rn list) ↔
      (list != 0#16 && rn != 15#4 && !((sf && !list.getLsbD 15) && w)) = false := by
  refine refuses_iff_of_excluded (blockExcluded_eq_none_iff _ w rn list) (fun x h => ?_) fun h => ?_
  · rw [State.loadMultiple]
    dsimp only
    rw [h]
  · rw [State.loadMultiple]
    dsimp only
    rw [h]
    dsimp only
    split_ifs <;> simp

theorem State.storeMultiple_refuses (p u sf w : Bool) (rn : Reg) (list : BitVec 16) :
    Result.refuses (s.storeMultiple p u sf w rn list) ↔
      (list != 0#16 && rn != 15#4 && !(sf && w)) = false := by
  refine refuses_iff_of_excluded (blockExcluded_eq_none_iff _ w rn list) (fun x h => ?_) fun h => ?_
  · rw [State.storeMultiple, h]
  · rw [State.storeMultiple, h]
    dsimp only
    split_ifs <;> simp

theorem State.swap_refuses (k : LoadKind) (rn rd rm : Reg) :
    Result.refuses (s.swap k rn rd rm) ↔ (rn != 15#4 && rd != 15#4 && rm != 15#4) = false := by
  refine (refuses_ite ?_).trans ?_
  · dsimp only
    split
    · simp
    · split <;> simp
  · rw [← Bool.not_eq_true, ← not_iff_not]
    simp [and_assoc]

theorem State.offer_refuses (cp : BitVec 4) {k : Word → List Word → Result}
    (hk : ∀ (v : Word) (vs : List Word), ¬ (k v vs).refuses) : ¬ Result.refuses (s.offer cp k) := by
  unfold State.offer
  split
  · simp
  · split
    · simp
    · simp
    · exact hk _ _

theorem execStc_refuses {c : Cond} (hc : condPassed c s.cpsr = true) (p u n w : Bool) (rn : Reg) (crd cp : BitVec 4)
    (off : BitVec 8) : Result.refuses (execStc c p u n w rn crd cp off s) ↔ (!(w && rn == 15#4)) = false := by
  rw [Bool.not_eq_false', Bool.and_comm]
  exact (s.conditional_refuses hc _).trans (refuses_ite (s.offer_refuses cp fun _ _ => nofun))

theorem execLdc_refuses {c : Cond} (hc : condPassed c s.cpsr = true) (p u n w : Bool) (rn : Reg) (crd cp : BitVec 4)
    (off : BitVec 8) : Result.refuses (execLdc c p u n w rn crd cp off s) ↔ (!(w && rn == 15#4)) = false := by
  rw [Bool.not_eq_false', Bool.and_comm]
  exact (s.conditional_refuses hc _).trans (refuses_ite (s.offer_refuses cp fun _ _ => nofun))

theorem execMcr_refuses {c : Cond} (hc : condPassed c s.cpsr = true) (opc : BitVec 3) (crn : BitVec 4) (rd : Reg)
    (cp : BitVec 4) (info : BitVec 3) (crm : BitVec 4) : ¬ Result.refuses (execMcr c opc crn rd cp info crm s) := by
  refine (s.conditional_refuses hc _).not.mpr ?_
  split
  · simp
  · exact s.offer_refuses cp fun _ _ => nofun

theorem execMrc_refuses {c : Cond} (hc : condPassed c s.cpsr = true) (opc : BitVec 3) (crn : BitVec 4) (rd : Reg)
    (cp : BitVec 4) (info : BitVec 3) (crm : BitVec 4) : ¬ Result.refuses (execMrc c opc crn rd cp info crm s) := by
  refine (s.conditional_refuses hc _).not.mpr ?_
  split
  · simp
  · split
    · simp
    · exact s.offer_refuses cp fun _ _ => nofun

end

/-! ### Every instruction -/

@[simp] theorem loList_eq_zero_iff (list : BitVec 8) : loList list = 0#16 ↔ list = 0#8 := by
  revert list
  decide

theorem loList_or_ne_zero (list : BitVec 8) :
    loList list ||| 0x4000#16 ≠ 0#16 ∧ loList list ||| 0x8000#16 ≠ 0#16 := by
  revert list
  decide

/-- An ARM instruction whose condition passes is refused exactly when its operand form is excluded. The cases are grouped by
the operation that the instructions share. -/
theorem exec_refuses_iff_arm {i : Instr} (hi : i.cond? ≠ none) (s : State)
    (hc : ∀ c : Cond, i.cond? = some c → condPassed c s.cpsr = true) :
    Result.refuses (exec i s) ↔ i.wf = false := by
  unfold exec
  cases i with
  | andImm | andShift | eorImm | eorShift | subImm | subShift | rsbImm | rsbShift | addImm | addShift | adcImm | adcShift
  | sbcImm | sbcShift | rscImm | rscShift | orrImm | orrShift | movImm | movShift | bicImm | bicShift | mvnImm | mvnShift
  | andReg | eorReg | subReg | rsbReg | addReg | adcReg | sbcReg | rscReg | orrReg | movReg | bicReg | mvnReg =>
    exact s.dataOp_refuses (hc _ rfl) _ _ _ _ _
  | tstImm | tstShift | teqImm | teqShift | cmpImm | cmpShift | cmnImm | cmnShift | tstReg | teqReg | cmpReg | cmnReg =>
    exact s.testOp_refuses (hc _ rfl) _ _ _ _
  | strImmPre | strImmPost | strtImm | strRegPre | strRegPost | strtReg | strbImmPre | strbImmPost | strbtImm | strbRegPre
  | strbRegPost | strbtReg =>
    exact (s.conditional_refuses (hc _ rfl) _).trans (s.storeSingle_refuses _ _ _ _ _ _ _ _)
  | ldrImmPre | ldrImmPost | ldrtImm | ldrRegPre | ldrRegPost | ldrtReg | ldrbImmPre | ldrbImmPost | ldrbtImm | ldrbRegPre
  | ldrbRegPost | ldrbtReg =>
    exact (s.conditional_refuses (hc _ rfl) _).trans (s.loadSingle_refuses _ _ _ _ _ _ _ _)
  | strhReg | strhImm => exact (s.conditional_refuses (hc _ rfl) _).trans (s.storeHalf_refuses _ _ _ _ _ _)
  | ldrhReg | ldrhImm | ldrsbReg | ldrsbImm | ldrshReg | ldrshImm =>
    exact (s.conditional_refuses (hc _ rfl) _).trans (s.loadHalf_refuses _ _ _ _ _ _ _)
  | stm => exact (s.conditional_refuses (hc _ rfl) _).trans (s.storeMultiple_refuses _ _ _ _ _ _)
  | ldm c p u sf w =>
    refine (s.conditional_refuses (hc _ rfl) _).trans ((s.loadMultiple_refuses _ _ _ _ _ _).trans ?_)
    rw [Bool.and_right_comm sf]
    rfl
  | swp | swpb => exact (s.conditional_refuses (hc _ rfl) _).trans (s.swap_refuses _ _ _ _)
  | mul | mla => exact (s.conditional_refuses (hc _ rfl) _).trans (s.multiply_refuses _ _ _ _ _ _)
  | umull | umlal | smull | smlal =>
    exact (s.conditional_refuses (hc _ rfl) _).trans (s.multiplyLong_refuses _ _ _ _ _ _)
  | mrs =>
    exact (s.conditional_refuses (hc _ rfl) _).trans
      ((refuses_ite (s.readPsr_refuses _ _)).trans bne_eq_false_iff_eq.symm)
  | msrFlagsReg =>
    exact (s.conditional_refuses (hc _ rfl) _).trans
      ((refuses_ite (s.writeFlags_refuses _ _)).trans bne_eq_false_iff_eq.symm)
  | bx => exact (s.conditional_refuses (hc _ rfl) _).trans ((refuses_ite (Result.refuses_next _)).trans bne_eq_false_iff_eq.symm)
  | msrReg =>
    refine (s.conditional_refuses (hc _ rfl) _).trans ((refuses_ite ?_).trans bne_eq_false_iff_eq.symm)
    split
    · exact s.writeSpsr_refuses _
    · exact s.writeCpsr_refuses _
  | msrFlagsImm => exact (s.conditional_refuses (hc _ rfl) _).trans (iff_of_false (s.writeFlags_refuses _ _) nofun)
  | b | bl | swi | undef => exact (s.conditional_refuses (hc _ rfl) _).trans (iff_of_false (Result.refuses_next _) nofun)
  | cdp =>
    exact (s.conditional_refuses (hc _ rfl) _).trans (iff_of_false (s.offer_refuses _ fun _ _ => Result.refuses_next _) nofun)
  | stc => exact execStc_refuses s (hc _ rfl) _ _ _ _ _ _ _ _
  | ldc => exact execLdc_refuses s (hc _ rfl) _ _ _ _ _ _ _ _
  | mcr => exact iff_of_false (execMcr_refuses s (hc _ rfl) _ _ _ _ _ _) nofun
  | mrc => exact iff_of_false (execMrc_refuses s (hc _ rfl) _ _ _ _ _ _) nofun
  | _ => exact absurd rfl hi

/-- So is a THUMB instruction. -/
theorem exec_refuses_iff_thumb {i : Instr} (hi : i.cond? = none) (s : State) :
    Result.refuses (exec i s) ↔ i.wf = false := by
  unfold exec
  cases i with
  | tLslImm | tLsrImm | tAsrImm | tAddReg | tSubReg | tAddImm3 | tSubImm3 | tMovImm | tCmpImm | tAddImm8 | tSubImm8
  | tAnd | tEor | tLslReg | tLsrReg | tAsrReg | tAdc | tSbc | tRorReg | tTst | tNeg | tCmp | tCmn | tOrr | tMul | tBic
  | tMvn | tCmpLoHi | tCmpHiLo | tCmpHiHi | tB | tBlHigh | tBlLow | tSwi | tUndefCond | tUndefB1 | tUndefB2 | tUndefB6
  | tUndefB8 | tUndefBe | tUndefE8 | tAddLoHi | tAddHiLo | tAddHiHi | tMovLoHi | tMovHiLo | tMovHiHi | tAddPc | tAddSp
  | tAddSpPos | tAddSpNeg | tBeq | tBne | tBcs | tBcc | tBmi | tBpl | tBvs | tBvc | tBhi | tBls | tBge | tBlt | tBgt
  | tBle => exact iff_of_false (Result.refuses_next _) nofun
  | tAddLoLo | tCmpLoLo | tMovLoLo | tBxH1 => exact iff_of_true (Result.refuses_refused _) rfl
  | tBxLo | tBxHi => exact iff_of_false (s.thumbExchange_refuses _) nofun
  | tLdrPc | tLdrReg | tLdrbReg | tLdrhReg | tLdsbReg | tLdshReg | tLdrImm | tLdrbImm | tLdrhImm | tLdrSp =>
    exact iff_of_false (s.loadInto_refuses _ _ _ _) nofun
  | tStrReg | tStrbReg | tStrhReg | tStrImm | tStrbImm | tStrhImm | tStrSp =>
    exact iff_of_false (s.storeFrom_refuses _ _ _ _) nofun
  | tPush list | tStmia rb list =>
    exact (s.storeMultiple_refuses _ _ _ _ _ _).trans (by simp [Instr.wf, loReg_ne])
  | tPop list | tLdmia rb list =>
    exact (s.loadMultiple_refuses _ _ _ _ _ _).trans (by simp [Instr.wf, loReg_ne])
  | tPushLr list =>
    exact (s.storeMultiple_refuses _ _ _ _ _ _).trans (by simp [Instr.wf, loList_or_ne_zero list])
  | tPopPc list =>
    exact (s.loadMultiple_refuses _ _ _ _ _ _).trans (by simp [Instr.wf, loList_or_ne_zero list])
  | _ => cases hi

theorem exec_refuses_iff (i : Instr) (s : State) (hp : i.passes s) : Result.refuses (exec i s) ↔ i.wf = false := by
  by_cases hi : i.cond? = none
  · exact exec_refuses_iff_thumb hi s
  · exact exec_refuses_iff_arm hi s hp

/-! ### The condition field -/

section

variable {s : State} {c : Cond} (hc : condPassed c s.cpsr = false)

include hc

theorem State.dataOp_fails (op : AluOp) (sf : Bool) (rn rd : Reg) (o : Op2) :
    s.dataOp op c sf rn rd o = .next s.advance := by
  rw [State.dataOp, s.conditional_fail c _ hc]

theorem State.testOp_fails (op : TestOp) (rn rd : Reg) (o : Op2) : s.testOp op c rn rd o = .next s.advance := by
  rw [State.testOp, s.conditional_fail c _ hc]

/-- An ARM instruction does nothing but under its condition. -/
theorem exec_of_condition_fails {i : Instr} (h : i.cond? = some c) : exec i s = .next s.advance := by
  unfold exec
  cases i with
  | andImm | andShift | andReg | eorImm | eorShift | eorReg | subImm | subShift | subReg | rsbImm | rsbShift | rsbReg
  | addImm | addShift | addReg | adcImm | adcShift | adcReg | sbcImm | sbcShift | sbcReg | rscImm | rscShift | rscReg
  | orrImm | orrShift | orrReg | movImm | movShift | movReg | bicImm | bicShift | bicReg | mvnImm | mvnShift | mvnReg =>
    cases h
    exact State.dataOp_fails hc _ _ _ _ _
  | tstImm | tstShift | tstReg | teqImm | teqShift | teqReg | cmpImm | cmpShift | cmpReg | cmnImm | cmnShift | cmnReg =>
    cases h
    exact State.testOp_fails hc _ _ _ _
  | _ =>
    all_goals cases h
    all_goals exact s.conditional_fail c _ hc

end

/-- Settles O5: Table 6 by the definition of the test, and what `State.conditional` does. -/
theorem conditionField : Obligations.ConditionField := by
  unfold Obligations.ConditionField
  constructor
  · intro p
    simp [condPassed]
  · intro i c s hi hc ht
    rw [exec_of_condition_fails hc hi, State.advance, State.instrBytes_arm ht]

/-- Settles O6: a well-formed instruction whose condition passes is not refused; one whose condition fails only advances. -/
theorem wellFormedRuns : Obligations.WellFormedRuns := by
  unfold Obligations.WellFormedRuns
  intro i s hwf
  by_cases hp : i.passes s
  case pos =>
    refine Result.runs_of_not_refuses fun hr => ?_
    rw [exec_refuses_iff i s hp, hwf] at hr
    cases hr
  case neg =>
    simp only [Instr.passes, not_forall, Bool.not_eq_true] at hp
    obtain ⟨c, hi, hc⟩ := hp
    exact .inl ⟨_, exec_of_condition_fails hc hi⟩

/-- Settles O7. -/
theorem excludedFormsRefused : Obligations.ExcludedFormsRefused := by
  unfold Obligations.ExcludedFormsRefused
  exact fun i s hwf hp => (exec_refuses_iff i s hp).mpr hwf

end Sys2Proof.Machine
end

section
/-! O36 to O40, O54, O55: the single transfers of both instruction sets (44_arm_load_store.md, 48_thumb_load_store.md). -/

namespace Sys2Proof.Machine

-- Elaborated one after the other: side by side, the threads of one large text pass the memory of the check.
set_option Elab.async false

/-! ### A transfer after a write-back of the base -/

section

variable (s : State) (wb : Bool) (rn : Reg) (moved : Word)

/-- What a load that is not aborted leaves: Rd or the PC holds the value, the base its write-back unless it is Rd, one read
is on the bus, and nothing else changes (44 R236 to R239, R253 to R257). -/
theorem State.loadInto_spec (k : LoadKind) (p : Bool) (rd : Reg) (a : Word) (hi : s.isolated = false)
    (ha : s.aborts a k.size false false p = false) (hn : wb = true → rn ≠ 15#4) :
    let v := k.extend a (s.memValue k.size a)
    ∃ t : State, (s.writeBase wb rn moved).loadInto k p rd a = .next t ∧
      (rd ≠ 15#4 → t.getReg (physReg s.cpsr.m rd) = v ∧ t.pc = s.pc + s.instrBytes) ∧
      (rd = 15#4 → t.pc = alignPc s.cpsr.t v ∧ t.pipe = []) ∧
      (wb = true → rd ≠ rn → t.getReg (physReg s.cpsr.m rn) = moved) ∧ t.cpsr = s.cpsr ∧
      (∃ e : BusCycle, t.bus = s.bus ++ [e] ∧ e.addr = a ∧ e.size = k.size ∧ e.write = false ∧ e.fetch = false ∧
        e.priv = p ∧ e.lock = false) ∧
      s.frame t (s.dest rd ++ if wb then [physReg s.cpsr.m rn] else []) := by
  have hbase := s.writeBase_getReg wb rn moved
  have hkeep := s.writeBase_keepsRegs wb rn moved
  refine ⟨_, State.loadInto_ok _ k p rd a (by simpa using hi) (by simpa using ha), ?_⟩
  rw [State.writeBase_memValue, State.finish_eq]
  by_cases hd : rd = 15#4
  · rw [if_pos hd]
    refine ⟨fun h => absurd hd h, fun _ => ⟨by simp, rfl⟩, fun hw _ => ?_, by simp, ?_, ?_, fun _ => by simp, ?_⟩
    · simpa [hw] using hbase (physReg s.cpsr.m rn)
    · exact ⟨_, by simp; rfl, by simp⟩
    · intro q hq
      have hq' := hkeep q fun h => hq (List.mem_append_right _ h)
      simpa using hq'
    · simp [State.keepsSystem]
  · rw [if_neg hd]
    refine ⟨fun _ => ⟨by simp, ?_⟩, fun h => absurd h hd, fun hw hne => ?_, by simp, ?_, ?_, fun _ => by simp, ?_⟩
    · show (s.writeBase wb rn moved).pc + (s.writeBase wb rn moved).instrBytes = _
      simp
    · have hp : physReg s.cpsr.m rn ≠ physReg s.cpsr.m rd := fun h => hne (physReg_injective _ _ _ (hn hw) hd h).symm
      simpa [hp, hw] using hbase (physReg s.cpsr.m rn)
    · exact ⟨_, by simp; rfl, by simp⟩
    · intro q hq
      have hq' := hkeep q fun h => hq (List.mem_append_right _ h)
      have hqd : q ≠ physReg s.cpsr.m rd := by
        rintro rfl
        simp [State.dest, hd] at hq
      simpa [hqd] using hq'
    · simp [State.keepsSystem]

/-- What a store that is not aborted leaves: memory holds the value at the address, the base its write-back, one write is on
the bus, and nothing else changes (44 R240, R241, R255). -/
theorem State.storeFrom_spec (z : Size) (p : Bool) (a v : Word) (hw : Memory.wf s.mem = true) (hi : s.isolated = false)
    (ho : oddHalf z a = false) (ha : s.aborts a z true false p = false) :
    ∃ t : State, (s.writeBase wb rn moved).storeFrom z p a v = .next t ∧
      z.holds s.pins.bigend t.mem a v ∧ s.keepsMemBut t z a ∧
      (wb = true → t.getReg (physReg s.cpsr.m rn) = moved) ∧ t.cpsr = s.cpsr ∧ t.pc = s.pc + s.instrBytes ∧
      (∃ e : BusCycle, t.bus = s.bus ++ [e] ∧ e.addr = a ∧ e.size = z ∧ e.write = true ∧ e.fetch = false ∧ e.priv = p ∧
        e.lock = false) ∧
      s.keepsRegs t (if wb then [physReg s.cpsr.m rn] else []) ∧ s.keepsSystem t := by
  have hwf : Memory.wf (s.writeBase wb rn moved).mem = true := by simpa using hw
  have hholds := State.stored_holds (s.writeBase wb rn moved) z a v hwf
  have hframe := fun x => State.get_stored_of_not_touches (s.writeBase wb rn moved) z a v x hwf
  rw [State.writeBase_pins] at hholds
  rw [State.writeBase_mem] at hframe
  refine ⟨_, State.storeFrom_ok _ z p a v (by simpa using hi) ho (by simpa using ha), hholds, hframe, ?_, by simp, ?_, ?_,
    s.writeBase_keepsRegs wb rn moved, by simp [State.keepsSystem]⟩
  · intro h
    exact (s.writeBase_getReg wb rn moved _).trans (if_pos ⟨h, rfl⟩)
  · show (s.writeBase wb rn moved).pc + (s.writeBase wb rn moved).instrBytes = _
    simp
  · exact ⟨_, by simp; rfl, by simp⟩

/-- A load that is aborted enters the data abort with the base written back (44 R246). -/
theorem State.loadInto_traps (k : LoadKind) (p : Bool) (rd : Reg) (a : Word) (hi : s.isolated = false)
    (ha : s.aborts a k.size false false p = true) :
    ∃ e : BusCycle, e.aborted = true ∧ (s.writeBase wb rn moved).loadInto k p rd a =
      .next (((s.writeBase wb rn moved).logCycle e).enterException .dataAbort (s.pc + 8#32)) := by
  rw [State.loadInto_abort _ k p rd a (by simpa using hi) (by simpa using ha), State.takeDataAbort,
    State.logCycle_pc, State.writeBase_pc]
  refine ⟨_, ?_, rfl⟩
  simpa using ha

theorem State.storeFrom_traps (z : Size) (p : Bool) (a v : Word) (hi : s.isolated = false) (ho : oddHalf z a = false)
    (ha : s.aborts a z true false p = true) :
    ∃ e : BusCycle, e.aborted = true ∧ (s.writeBase wb rn moved).storeFrom z p a v =
      .next (((s.writeBase wb rn moved).logCycle e).enterException .dataAbort (s.pc + 8#32)) := by
  rw [State.storeFrom_abort _ z p a v (by simpa using hi) ho (by simpa using ha), State.takeDataAbort,
    State.logCycle_pc, State.writeBase_pc]
  refine ⟨_, ?_, rfl⟩
  simpa using ha

end

/-! ### Words and bytes -/

theorem oddHalf_of_ne_half {z : Size} (h : z ≠ .half) (a : Word) : oddHalf z a = false := by
  cases z with
  | half => exact absurd rfl h
  | byte | word => rfl

/-- Settles O36. -/
theorem singleLoads : Obligations.SingleLoads := by
  unfold Obligations.SingleLoads
  intro s byte c x u rn rd o moved a k v ht hc hi ho hn ha
  have hv : k.extend a (s.memValue k.size a) = v := s.extend_memValue k a (oddHalf_of_ne_half (by cases byte <;> nofun) a)
  obtain ⟨t, hl, hreg, hpc, hwb, hcpsr, hbus, hframe⟩ :=
    s.loadInto_spec x.writesBack rn moved k (x.privileged s) rd a hi ha hn
  rw [hv, State.instrBytes_arm ht] at hreg
  rw [hv, ht] at hpc
  exact ⟨t, (exec_sdt_load byte c x u rn rd o s hc ho hn).trans hl, hreg, hpc, hwb, hcpsr, hbus, hframe⟩

/-- Settles O37. -/
theorem singleStores : Obligations.SingleStores := by
  unfold Obligations.SingleStores
  intro s byte c x u rn rd o moved a z hw ht hc hi ho hn ha
  obtain ⟨t, hs, hholds, hmem, hwb, hcpsr, hpc, hbus, hregs, hsys⟩ := s.storeFrom_spec x.writesBack rn moved z
    (x.privileged s) a (s.storeValue x.writesBack rn rd moved) hw hi (oddHalf_of_ne_half (by cases byte <;> nofun) a) ha
  rw [State.instrBytes_arm ht] at hpc
  exact ⟨t, _, (exec_sdt_store byte c x u rn rd o s hc ho hn).trans hs, s.storeValue_cases _ _ _ _, hholds, hmem, hwb,
    hcpsr, hpc, hbus, hregs, hsys⟩

/-! ### Halfwords and signed values -/

theorem writesBack_half {p w : Bool} {rn : Reg} (h : p = false ∨ w = true → rn ≠ 15#4) (hw : (!p || w) = true) :
    rn ≠ 15#4 := h (by simpa using hw)

/-- Settles O38. -/
theorem halfwordLoads : Obligations.HalfwordLoads := by
  unfold Obligations.HalfwordLoads
  intro s op k c p u w rn rd o moved a hop ht hc hi hp ho hn ha
  have hk : hdtKind op = k ∧ op ≠ .strh := by
    obtain ⟨rfl, rfl⟩ | ⟨rfl, rfl⟩ | ⟨rfl, rfl⟩ := hop
    · exact ⟨rfl, nofun⟩
    · exact ⟨rfl, nofun⟩
    · exact ⟨rfl, nofun⟩
  obtain ⟨rfl, hstrh⟩ := hk
  obtain ⟨t, hl, hreg, hpc, hwb, hcpsr, -, hframe⟩ :=
    s.loadInto_spec (!p || w) rn moved (hdtKind op) s.privileged rd a hi ha (writesBack_half hn)
  rw [State.instrBytes_arm ht] at hreg
  rw [ht] at hpc
  exact ⟨t, _, (exec_hdt_load op c p u w rn rd o s hstrh hc hp ho hn).trans hl, s.extend_memValue _ a, hreg, hpc,
    fun h => hwb (by simpa using h), hcpsr, hframe⟩

/-- Settles O39. -/
theorem halfwordStores : Obligations.HalfwordStores := by
  unfold Obligations.HalfwordStores
  intro s c p u w rn rd o moved a hw ht hc hi hp ho hn
  have hexec := exec_hdt_store c p u w rn rd o s hc hp ho hn
  refine ⟨?even, ?odd⟩
  case even =>
    intro hodd ha
    obtain ⟨t, hs, hholds, hmem, hwb, hcpsr, hpc, -, hregs, hsys⟩ := s.storeFrom_spec (!p || w) rn moved .half
      s.privileged a (s.storeValue (!p || w) rn rd moved) hw hi hodd ha
    rw [State.instrBytes_arm ht] at hpc
    refine ⟨t, _, hexec.trans hs, ?_, hholds, hmem, fun h => hwb (by simpa using h), hcpsr, hpc, hregs, hsys⟩
    simpa using s.storeValue_cases (!p || w) rn rd moved
  case odd => exact fun hodd => hexec.trans (State.storeFrom_odd _ .half _ _ _ hodd)

/-! ### THUMB transfers -/

/-- Settles O54. -/
theorem thumbLoads : Obligations.ThumbLoads := by
  unfold Obligations.ThumbLoads
  intro s i k rd a _ hld hi ha
  rw [exec_thumbLoad s i k rd a hld, s.loadInto_ok k _ _ a hi ha, State.finish_eq, if_neg (loReg_ne rd)]
  exact ⟨_, _, rfl, State.sets_writeReg (s.logCycle _) _ _, s.extend_memValue k a⟩

/-- Settles O55. -/
theorem thumbStores : Obligations.ThumbStores := by
  unfold Obligations.ThumbStores
  intro s i z rd a ht hst hi hw
  rw [exec_thumbStore s i z rd a hst]
  refine ⟨?even, s.storeFrom_odd z _ a _⟩
  intro ho ha
  obtain ⟨t, hs, hholds, hmem, -, hcpsr, hpc, -, hregs, hsys⟩ :=
    s.storeFrom_spec false 0#4 0#32 z s.privileged a (s.operand (loReg rd)) hw hi ho ha
  rw [State.instrBytes_thumb ht] at hpc
  exact ⟨t, hs, hholds, hmem, hcpsr, hpc, hregs, hsys⟩

/-! ### Aborts -/

/-- Settles O40: an aborted load and an aborted store, in each shape of instruction. -/
theorem abortedSingleTransfers : Obligations.AbortedSingleTransfers := by
  unfold Obligations.AbortedSingleTransfers
  intro traps
  refine ⟨?single, ?half, ?thumbLoad, ?thumbStore⟩
  case single =>
    intro s op c x u rn rd o moved a z hc hi ho hn ha
    have load (byte : Bool) := exec_sdt_load byte c x u rn rd o s hc ho hn
    have store (byte : Bool) := exec_sdt_store byte c x u rn rd o s hc ho hn
    cases op with
    | ldr =>
      obtain ⟨e, he, h⟩ := s.loadInto_traps x.writesBack rn moved .word (x.privileged s) rd a hi ha
      exact ⟨e, he, (load false).trans h⟩
    | ldrb =>
      obtain ⟨e, he, h⟩ := s.loadInto_traps x.writesBack rn moved .byte (x.privileged s) rd a hi ha
      exact ⟨e, he, (load true).trans h⟩
    | str =>
      obtain ⟨e, he, h⟩ := s.storeFrom_traps x.writesBack rn moved .word (x.privileged s) a _ hi rfl ha
      exact ⟨e, he, (store false).trans h⟩
    | strb =>
      obtain ⟨e, he, h⟩ := s.storeFrom_traps x.writesBack rn moved .byte (x.privileged s) a _ hi rfl ha
      exact ⟨e, he, (store true).trans h⟩
  case half =>
    intro s op c p u w rn rd o moved a hc hi hp ho hn hodd ha
    by_cases hop : op = .strh
    · subst hop
      obtain ⟨e, he, h⟩ := s.storeFrom_traps (!p || w) rn moved .half s.privileged a _ hi (hodd rfl) ha
      exact ⟨e, he, (exec_hdt_store c p u w rn rd o s hc hp ho hn).trans h⟩
    · have hsize : (if op = .ldrsb then Size.byte else .half) = (hdtKind op).size := by
        cases op with
        | ldrsb | ldrh | ldrsh => rfl
        | strh => exact absurd rfl hop
      rw [hsize, decide_eq_false hop] at ha
      obtain ⟨e, he, h⟩ := s.loadInto_traps (!p || w) rn moved (hdtKind op) s.privileged rd a hi ha
      exact ⟨e, he, (exec_hdt_load op c p u w rn rd o s hop hc hp ho hn).trans h⟩
  case thumbLoad =>
    intro s i k rd a hld hi ha
    obtain ⟨e, he, h⟩ := s.loadInto_traps false 0#4 0#32 k s.privileged (loReg rd) a hi ha
    exact ⟨e, he, (exec_thumbLoad s i k rd a hld).trans h⟩
  case thumbStore =>
    intro s i z rd a hst hi ho ha
    obtain ⟨e, he, h⟩ := s.storeFrom_traps false 0#4 0#32 z s.privileged a (s.operand (loReg rd)) hi ho ha
    exact ⟨e, he, (exec_thumbStore s i z rd a hst).trans h⟩

end Sys2Proof.Machine
end

section
/-! O45: SWP and SWPB (45_arm_block_swap.md). -/

namespace Sys2Proof.Machine

-- Elaborated one after the other: side by side, the threads of one large text pass the memory of the check.
set_option Elab.async false

section

variable (s : State) (k : LoadKind) {rn rd rm : Reg} (hn : rn ≠ 15#4) (hd : rd ≠ 15#4) (hm : rm ≠ 15#4)
  (hi : s.isolated = false)

include hn hd hm hi

/-- A swap that is not aborted: the locked read, the locked write, then Rd. -/
theorem State.swap_ok (hr : s.aborts (s.operand rn) k.size false false s.privileged = false)
    (hw : s.aborts (s.operand rn) k.size true false s.privileged = false) :
    ∃ c c' : BusCycle, s.swap k rn rd rm = .next (({ (s.logCycle c).logCycle c' with
        mem := s.stored k.size (s.operand rn) (s.operand rm) } : State).writeReg rd
          (k.extend (s.operand rn) (s.memValue k.size (s.operand rn)))).advance ∧
      c.lock = true ∧ c'.lock = true ∧ c.write = false ∧ c'.write = true ∧ c.addr = s.operand rn ∧
      c'.addr = s.operand rn := by
  rw [State.swap, if_neg (by simp [hn, hd, hm])]
  dsimp only
  rw [s.dataRead_ok _ _ _ _ hi hr]
  dsimp only
  rw [State.dataWrite_ok (s.logCycle _) _ _ _ _ _ hi hw]
  exact ⟨_, _, rfl, rfl, rfl, rfl, rfl, rfl, rfl⟩

/-- A swap of which an access is aborted: the data abort, with no register and no byte of memory changed. -/
theorem State.swap_traps (h : s.aborts (s.operand rn) k.size false false s.privileged = true ∨
      s.aborts (s.operand rn) k.size true false s.privileged = true) :
    ∃ r : State, s.swap k rn rd rm = .next (r.enterException .dataAbort (s.pc + 8#32)) ∧ r.regs = s.regs ∧
      r.cpsr = s.cpsr ∧ r.spsrs = s.spsrs ∧ s.keepsMem r := by
  rw [State.swap, if_neg (by simp [hn, hd, hm])]
  dsimp only
  cases hr : s.aborts (s.operand rn) k.size false false s.privileged with
  | true =>
    rw [s.dataRead_abort _ _ _ _ hi hr]
    exact ⟨_, rfl, rfl, rfl, rfl, fun _ => rfl⟩
  | false =>
    have hw : s.aborts (s.operand rn) k.size true false s.privileged = true := by simpa [hr] using h
    rw [s.dataRead_ok _ _ _ _ hi hr]
    dsimp only
    rw [State.dataWrite_abort (s.logCycle _) _ _ _ _ _ hi hw]
    exact ⟨_, rfl, rfl, rfl, rfl, fun _ => rfl⟩

end

theorem exec_swap {s : State} {c : Cond} (hc : condPassed c s.cpsr = true) (byte : Bool) (rn rd rm : Reg) :
    exec (if byte then .swpb c rn rd rm else .swp c rn rd rm) s = s.swap (if byte then .byte else .word) rn rd rm := by
  have h : exec (if byte then .swpb c rn rd rm else .swp c rn rd rm) s =
      s.conditional c fun s => s.swap (if byte then .byte else .word) rn rd rm := by
    cases byte <;> rfl
  rw [h, State.conditional_pass _ _ _ hc]

/-- Settles O45. -/
theorem swap : Obligations.Swap := by
  unfold Obligations.Swap
  intro s byte c rn rd rm a k i ht hc hn hd hm hi hw
  have hexec : exec i s = s.swap k rn rd rm := exec_swap hc byte rn rd rm
  rw [hexec]
  refine ⟨?completes, s.swap_traps k hn hd hm hi⟩
  case completes =>
    intro hr hwr
    obtain ⟨e, e', h, hl, hl', hwe, hwe', hae, hae'⟩ := s.swap_ok k hn hd hm hi hr hwr
    have hsize : oddHalf k.size a = false := oddHalf_of_ne_half (by cases byte <;> nofun) a
    refine ⟨_, h, ?_, s.stored_holds k.size a _ hw, fun x => s.get_stored_of_not_touches k.size a _ x hw, ?_,
      ⟨rfl, rfl, rfl⟩, rfl, ?_, e, e', ?_, hl, hl', hwe, hwe', hae, hae'⟩
    · rw [← s.extend_memValue k a hsize]
      exact State.setReg_getReg_self _ _ _
    · exact fun p hp => State.setReg_getReg_ne _ _ _ _ fun heq => hp (List.mem_singleton.mpr heq)
    · rw [← State.instrBytes_arm ht]
      rfl
    · exact List.append_assoc s.bus [e] [e']

end Sys2Proof.Machine
end

section
/-! O47: CDP, MCR and MRC accepted by a coprocessor (46_arm_swi_coproc_undef.md). -/

namespace Sys2Proof.Machine

section

variable {s : State} {c : Cond} (hc : condPassed c s.cpsr = true) {cp : BitVec 4} (hcp : cp ≠ 14#4)
  (hp : s.pins.coprocPresent.getLsbD cp.toNat = true) {v : Word} {vs : List Word} (hr : s.inp.cop = .ready v vs)

include hcp hp hr in
theorem State.offer_ready (k : Word → List Word → Result) : s.offer cp k = k v vs := by
  rw [State.offer, if_neg (by simp [hcp, hp]), hr]

include hcp in
theorem State.commsAccepts_of_ne (opc info : BitVec 3) (crm : BitVec 4) : s.commsAccepts cp opc info crm = false := by
  simp [State.commsAccepts, hcp]

include hc hcp hp hr

theorem exec_cdp_ready (opc crn crd : BitVec 4) (info : BitVec 3) (crm : BitVec 4) :
    exec (.cdp c opc crn crd cp info crm) s = .next (s.logEvent (.operation cp opc crn crd info crm)).advance := by
  show execCdp c opc crn crd cp info crm s = _
  rw [execCdp, State.conditional_pass _ _ _ hc, State.offer_ready hcp hp hr]

theorem exec_mcr_ready (opc : BitVec 3) (crn : BitVec 4) (rd : Reg) (info : BitVec 3) (crm : BitVec 4) :
    exec (.mcr c opc crn rd cp info crm) s =
      .next (s.logEvent (.toCoprocessor cp opc crn info crm (s.operandFar rd))).advanceNonSeq := by
  show execMcr c opc crn rd cp info crm s = _
  rw [execMcr, State.conditional_pass _ _ _ hc, State.commsAccepts_of_ne hcp, if_neg (by simp),
    State.offer_ready hcp hp hr]

theorem exec_mrc_ready (opc : BitVec 3) (crn : BitVec 4) (rd : Reg) (info : BitVec 3) (crm : BitVec 4) :
    exec (.mrc c opc crn rd cp info crm) s =
      .next ((s.logEvent (.fromCoprocessor cp opc crn info crm v)).receive rd v) := by
  show execMrc c opc crn rd cp info crm s = _
  rw [execMrc, State.conditional_pass _ _ _ hc, State.commsAccepts_of_ne hcp, if_neg (by simp), if_neg (by simp),
    State.offer_ready hcp hp hr]

end

/-- Settles O47. -/
theorem coprocessorRegisterTransfers : Obligations.CoprocessorRegisterTransfers := by
  unfold Obligations.CoprocessorRegisterTransfers
  intro s c cp crn crm info v vs ht hc hcp hp hr
  refine ⟨?cdp, ?mcr, ?mrc, ?mrcPc⟩
  case cdp =>
    intro opc crd
    exact ⟨_, exec_cdp_ready hc hcp hp hr opc crn crd info crm, s.setsFlags_advance s.cpsr rfl, rfl⟩
  case mcr =>
    intro opc rd
    rw [← State.operandFar_eq]
    exact ⟨_, exec_mcr_ready hc hcp hp hr opc crn rd info crm, s.setsFlags_advance s.cpsr rfl, rfl, rfl⟩
  case mrc =>
    intro opc rd hd
    exact ⟨_, exec_mrc_ready hc hcp hp hr opc crn rd info crm, State.sets_receive (s.logEvent _) hd v⟩
  case mrcPc =>
    intro opc
    exact ⟨_, exec_mrc_ready hc hcp hp hr opc crn 15#4 info crm, State.setsFlags_receive (s.logEvent _) v⟩

end Sys2Proof.Machine
end

section
/-! O41: the load multiple of which no transfer is aborted (45_arm_block_swap.md, 48_thumb_load_store.md). -/

namespace Sys2Proof.Machine

-- Elaborated one after the other: side by side, the threads of one large text pass the memory of the check.
set_option Elab.async false

/-! ### The words of a load multiple, none aborted -/

namespace LoadProgress

variable (q : LoadProgress) (ub : Bool) (a : Word)

/-- The word for R15 goes to no general register (45 R270). -/
theorem load_pc_getReg (p : PReg) : (q.load ub a 15#4).state.getReg p = q.state.getReg p := by
  have hr := State.dataRead_getReg q.state .word a q.state.privileged false p
  unfold load
  split
  · next t e => rw [e] at hr; exact hr
  · next v t e =>
    rw [e] at hr
    rw [if_pos rfl]
    split
    · exact hr
    · exact hr

theorem load_dbg (r : Reg) (hi : q.state.isolated = false) : (q.load ub a r).state.dbg = q.state.dbg := by
  have hd := State.dataRead_dbg q.state .word a q.state.privileged false hi
  unfold load
  split
  · next t e => rw [e] at hd; exact hd
  · next v t e =>
    rw [e] at hd
    split
    · exact hd
    · split
      · exact hd
      · cases ub <;> exact hd

theorem loadAll_dbg (rs : List Reg) : ∀ (q : LoadProgress) (a : Word), q.state.isolated = false →
    (q.loadAll ub a rs).state.dbg = q.state.dbg := by
  induction rs with
  | nil => exact fun q a _ => rfl
  | cons r rest ih =>
    intro q a hi
    obtain ⟨-, -, -, -, -, -, -, hi'⟩ := q.load_keeps ub a r
    exact (ih _ _ (hi'.trans hi)).trans (q.load_dbg ub a r hi)

end LoadProgress

/-- A list is its registers below R15, and R15. -/
theorem regList_eq (list : BitVec 16) :
    regList list = regsBelow list 15 ++ if list.getLsbD 15 then [15#4] else [] := by
  rw [← regsBelow_sixteen, regsBelow_succ]

section

variable (s : State) (user p u w : Bool) (rn : Reg) (list : BitVec 16)

/-- A load multiple before its first word, with the base written back (45 R275). -/
def State.blockBase : LoadProgress :=
  ⟨s.writeBase w rn (blockFinal u (s.operand rn) (listBytes list)), false, 0#32⟩

/-- The registers below R15 of a load multiple. -/
def State.blockLow : LoadProgress :=
  (s.blockBase u w rn list).loadAll user (blockStart p u (s.operand rn) (listBytes list)) (regsBelow list 15)

theorem State.blockLoad_eq : s.blockLoad user p u w rn list = if list.getLsbD 15 then
    (s.blockLow user p u w rn list).load user (blockAddress p u (s.operand rn) list 15#4) 15#4
    else s.blockLow user p u w rn list := by
  rw [State.blockLoad, regList_eq]
  split
  · rw [LoadProgress.loadAll_append, show 15 = (15#4 : Reg).toNat from rfl, length_regsBelow]
    rfl
  · rw [List.append_nil]
    rfl

theorem State.blockLow_keeps : s.loadKeeps (s.blockLow user p u w rn list).state :=
  State.loadKeeps_trans (s.loadKeeps_writeBase w rn _) (LoadProgress.loadAll_keeps _ _ _ _)

theorem State.blockLoad_dbg (hi : s.isolated = false) : (s.blockLoad user p u w rn list).state.dbg = s.dbg :=
  (LoadProgress.loadAll_dbg user (regList list) _ _ ((s.writeBase_isolated w rn _).trans hi)).trans
    (s.writeBase_dbg w rn _)

/-- The general registers are those that the registers below R15 leave. -/
theorem State.blockLoad_getReg (q : PReg) :
    (s.blockLoad user p u w rn list).state.getReg q = (s.blockLow user p u w rn list).state.getReg q := by
  rw [State.blockLoad_eq]
  split
  · exact LoadProgress.load_pc_getReg _ _ _ _
  · rfl

/-- A register that none of the list selects is not loaded: it holds what the write-back left. -/
theorem State.blockLoad_getReg_other {q : PReg} (hq : ∀ r : Reg, list.getLsbD r.toNat = true → r ≠ 15#4 →
      q ≠ physReg (if user then modeUsr else s.cpsr.m) r) :
    (s.blockLoad user p u w rn list).state.getReg q =
      if w = true ∧ q = physReg s.cpsr.m rn then blockFinal u (s.operand rn) (listBytes list) else s.getReg q := by
  rw [State.blockLoad_getReg, State.blockLow, LoadProgress.loadAll_getReg]
  · exact s.writeBase_getReg w rn _ q
  · intro r hr
    obtain ⟨hbit, hlt⟩ := (mem_regsBelow list (by decide) r).mp hr
    rw [State.blockBase, State.writeBase_cpsr]
    exact hq r hbit fun h => absurd hlt (by rw [h]; decide)

variable {user p u w rn list} (hi : s.isolated = false)
  (hok : ∀ r : Reg, list.getLsbD r.toNat = true →
    s.aborts (blockAddress p u (s.operand rn) list r) .word false false s.privileged = false)

include hok in
theorem State.blockLow_addresses (k : Nat) (hk : k < (regsBelow list 15).length) :
    (s.blockBase u w rn list).state.aborts (blockStart p u (s.operand rn) (listBytes list) + BitVec.ofNat 32 (4 * k)) .word
      false false (s.blockBase u w rn list).state.privileged = false := by
  rw [← List.mem_range, ← map_rankIn_regsBelow list (by decide)] at hk
  obtain ⟨r, hr, rfl⟩ := List.mem_map.mp hk
  obtain ⟨hbit, -⟩ := (mem_regsBelow list (by decide) r).mp hr
  rw [State.blockBase, State.writeBase_aborts, State.writeBase_privileged]
  exact hok r hbit

include hi in
theorem State.blockBase_isolated : (s.blockBase u w rn list).state.isolated = false :=
  (s.writeBase_isolated w rn _).trans hi

include hi hok

theorem State.blockLow_not_aborted : (s.blockLow user p u w rn list).aborted = false :=
  LoadProgress.loadAll_not_aborted user _ _ _ ((s.writeBase_isolated w rn _).trans hi) rfl
    (s.blockLow_addresses hok)

/-- The word for R15, after the others. -/
theorem State.blockLow_load_pc (h15 : list.getLsbD 15 = true) :
    ((s.blockLow user p u w rn list).load user (blockAddress p u (s.operand rn) list 15#4) 15#4).aborted = false ∧
    ((s.blockLow user p u w rn list).load user (blockAddress p u (s.operand rn) list 15#4) 15#4).newPc =
      Memory.wordAt s.pins.bigend s.mem (blockAddress p u (s.operand rn) list 15#4) := by
  obtain ⟨-, hc, -, hm, -, hp, -, hi'⟩ := s.blockLow_keeps user p u w rn list
  have ha := hok 15#4 h15
  rw [State.aborts, State.privileged, ← hp, ← hc] at ha
  obtain ⟨hna, hpc⟩ := LoadProgress.load_pc _ user _ (hi'.trans hi) ha
    (s.blockLow_not_aborted (user := user) (w := w) hi hok)
  rw [hm, hp] at hpc
  exact ⟨hna, hpc⟩

theorem State.blockLoad_not_aborted : (s.blockLoad user p u w rn list).aborted = false := by
  rw [State.blockLoad_eq]
  split
  · next h15 => exact (s.blockLow_load_pc hi hok h15).1
  · exact s.blockLow_not_aborted hi hok

theorem State.blockLoad_newPc (h15 : list.getLsbD 15 = true) : (s.blockLoad user p u w rn list).newPc =
    Memory.wordAt s.pins.bigend s.mem (blockAddress p u (s.operand rn) list 15#4) := by
  rw [State.blockLoad_eq, if_pos h15]
  exact (s.blockLow_load_pc hi hok h15).2

/-- Each register of the list but R15 holds the word at its address (45 R268, R270). -/
theorem State.blockLoad_getReg_word {r : Reg} (hr : list.getLsbD r.toNat = true) (h15 : r ≠ 15#4) :
    (s.blockLoad user p u w rn list).state.getReg (physReg (if user then modeUsr else s.cpsr.m) r) =
      Memory.wordAt s.pins.bigend s.mem (blockAddress p u (s.operand rn) list r) := by
  have hlt : r.toNat < 15 := by
    have : r.toNat ≠ 15 := fun h => h15 (BitVec.eq_of_toNat_eq h)
    omega
  obtain ⟨post, hcut, hpost⟩ := regsBelow_cut list (by decide) hr hlt
  have hafter (r' : Reg) (h : r' ∈ post) : r' ≠ 15#4 ∧ r' ≠ r := by
    have hmem : r' ∈ regsBelow list 15 := hcut ▸ List.mem_append_right _ (List.mem_cons_of_mem _ h)
    obtain ⟨-, hlt'⟩ := (mem_regsBelow list (by decide) r').mp hmem
    exact ⟨fun he => absurd hlt' (by rw [he]; decide), fun he => (hpost r' h).ne (he ▸ rfl)⟩
  have hadr := s.blockLow_addresses (p := p) (u := u) (w := w) hok
  rw [State.blockLoad_getReg, State.blockLow]
  rw [hcut] at hadr ⊢
  have hload := LoadProgress.loadAll_getReg_of_ok user (s.blockBase_isolated hi) rfl hadr
    h15 hafter
  simpa [length_regsBelow, blockAddress, State.blockBase] using hload

end

/-! ### How a load multiple ends -/

section

variable {s : State} {user p u sf w : Bool} {rn : Reg} {list : BitVec 16}

/-- A load multiple of which no word is aborted goes on at the next instruction, or where the word for R15 says
(45 R270, R273). -/
theorem State.loadMultiple_of_ok (hl : list ≠ 0#16) (hn : rn ≠ 15#4) (hw : (user && w) = false)
    (hu : user = (sf && !list.getLsbD 15)) (hp : sf = true → s.privileged = true)
    (hs : sf = true → list.getLsbD 15 = true → s.spsr ≠ none) (ha : (s.blockLoad user p u w rn list).aborted = false) :
    s.loadMultiple p u sf w rn list = if list.getLsbD 15 then
      (if sf then (s.blockLoad user p u w rn list).state.exceptionReturn (s.blockLoad user p u w rn list).newPc
        else .next ((s.blockLoad user p u w rn list).state.branch (s.blockLoad user p u w rn list).newPc))
      else .next { (s.blockLoad user p u w rn list).state.advance with hazard := user } := by
  subst hu
  have hmode : ¬ (sf && !s.privileged) = true := by
    cases sf <;> simp_all
  have hspsr : ¬ (sf && list.getLsbD 15 && s.spsr.isNone) = true := by
    cases sf <;> simp_all
  unfold State.loadMultiple
  dsimp only
  rw [blockExcluded_none hl hn hw]
  dsimp only
  rw [if_neg hmode, if_neg hspsr]
  exact if_neg (Bool.eq_false_iff.mp ha)

/-- A load multiple that is well-formed has a register in its list (45 R279). -/
theorem Instr.loadsMany_list_ne_zero {i : Instr} (h : i.loadsMany = some (p, u, w, rn, list)) (hwf : i.wf = true) :
    list ≠ 0#16 := by
  cases i
  case ldm c p' u' sf w' rn' list' =>
    cases sf with
    | true => exact absurd h nofun
    | false =>
      obtain ⟨rfl, rfl, rfl, rfl, rfl⟩ := by simpa only [Instr.loadsMany, Option.some.injEq, Prod.mk.injEq] using h
      simp_all [Instr.wf]
  case tPop list' | tLdmia rb list' =>
    obtain ⟨rfl, rfl, rfl, rfl, rfl⟩ := by simpa only [Instr.loadsMany, Option.some.injEq, Prod.mk.injEq] using h
    exact fun h0 => absurd ((loList_eq_zero_iff _).mp h0) (by simpa [Instr.wf] using hwf)
  case tPopPc list' =>
    obtain ⟨rfl, rfl, rfl, rfl, rfl⟩ := by simpa only [Instr.loadsMany, Option.some.injEq, Prod.mk.injEq] using h
    exact (loList_or_ne_zero _).2
  all_goals exact absurd h (by simp [Instr.loadsMany])

end

/-! ### The registers, memory and the system after a load multiple -/

section

variable {s : State} {user p u w : Bool} {rn : Reg} {list : BitVec 16}

/-- The base that is not in the list holds its written-back value (45 R275). -/
theorem State.blockLoad_getReg_base (hn : rn ≠ 15#4) (hu : user = true → w = false) (hw : w = true)
    (hr : list.getLsbD rn.toNat = false) : (s.blockLoad user p u w rn list).state.getReg (physReg s.cpsr.m rn) =
      blockFinal u (s.operand rn) (listBytes list) := by
  have huser : user = false := by
    cases user with
    | false => rfl
    | true => exact absurd (hw.symm.trans (hu rfl)) nofun
  subst huser
  rw [State.blockLoad_getReg_other, if_pos ⟨hw, rfl⟩]
  intro r hbit h15 he
  rw [physReg_injective _ _ _ hn h15 he, hbit] at hr
  exact absurd hr nofun

/-- Registers that are neither in the list nor the written-back base are as before. -/
theorem State.blockLoad_getReg_frame {q : PReg} (hq : ∀ r : Reg, list.getLsbD r.toNat = true → r ≠ 15#4 →
      q ≠ physReg (if user then modeUsr else s.cpsr.m) r) (hw : w = true → q ≠ physReg s.cpsr.m rn) :
    (s.blockLoad user p u w rn list).state.getReg q = s.getReg q := by
  rw [State.blockLoad_getReg_other _ _ _ _ _ _ _ hq, if_neg fun h => hw h.1 h.2]

theorem State.blockLoad_next_pc : (s.blockLoad user p u w rn list).state.pc +
    (s.blockLoad user p u w rn list).state.instrBytes = s.pc + s.instrBytes := by
  obtain ⟨hpc, hc, -⟩ := s.blockLoad_keeps user p u w rn list
  rw [State.instrBytes, State.instrBytes, hpc, hc]

theorem State.blockLoad_keepsMem : s.keepsMem (s.blockLoad user p u w rn list).state := by
  obtain ⟨-, -, -, hm, -⟩ := s.blockLoad_keeps user p u w rn list
  exact fun a => congrArg (Memory.get · a) hm

theorem State.blockLoad_keepsSystem (hi : s.isolated = false) :
    s.keepsSystem (s.blockLoad user p u w rn list).state := by
  obtain ⟨-, -, hsp, -, -, hp, -⟩ := s.blockLoad_keeps user p u w rn list
  exact ⟨hsp, s.blockLoad_dbg user p u w rn list hi, hp⟩

end

/-- Settles O41: the words of the list, one after the other, and the end of the loop. -/
theorem loadMultiple : Obligations.LoadMultiple := by
  intro s i p u w rn list h hwf hp hi base hok word
  obtain ⟨hexec, hn⟩ := exec_loadsMany h hp hwf
  have hna := s.blockLoad_not_aborted (user := false) (w := w) hi hok
  obtain ⟨-, hc, -⟩ := s.blockLoad_keeps false p u w rn list
  have hword {r : Reg} := s.blockLoad_getReg_word (user := false) (w := w) (r := r) hi hok
  have hbase := s.blockLoad_getReg_base (user := false) (p := p) (u := u) (w := w) (list := list) hn nofun
  have hframe (q : PReg) := s.blockLoad_getReg_frame (user := false) (p := p) (u := u) (w := w) (rn := rn)
    (list := list) (q := q)
  rw [hexec, State.loadMultiple_of_ok (sf := false) (user := false) (Instr.loadsMany_list_ne_zero h hwf) hn rfl rfl nofun
    nofun hna]
  cases h15 : list.getLsbD 15 with
  | true =>
    refine ⟨_, rfl, fun r => hword, fun _ => ⟨?_, rfl⟩, nofun, hbase, hframe, hc, State.blockLoad_keepsMem,
      State.blockLoad_keepsSystem hi⟩
    rw [State.branch_pc, hc, s.blockLoad_newPc hi hok h15]
  | false =>
    refine ⟨_, rfl, fun r => hword, nofun, fun _ => ?_, hbase, hframe, hc, State.blockLoad_keepsMem,
      State.blockLoad_keepsSystem hi⟩
    exact State.blockLoad_next_pc

end Sys2Proof.Machine
end

section
/-! The store loop (45 R268, R271, R277): which words reach memory, which accesses are made, and whether one is aborted. Both
the store multiples and STC are such a loop. -/

namespace Sys2Proof.Machine

-- Elaborated one after the other: side by side, the threads of one large text pass the memory of the check.
set_option Elab.async false

/-! ### One word of a store loop -/

section

variable (s : State) (a v : Word)

/-- The state after one word of a store loop. -/
def State.storeOne : State := (s.dataWrite .word a v s.privileged false).2

/-- A word store to the address is aborted. -/
def State.storeStops : Bool := s.aborts a .word true false s.privileged

theorem State.storeOne_keeps : s.storeKeeps (s.storeOne a v) := s.storeKeeps_dataWrite .word a v s.privileged false

theorem State.storeOne_wf (h : Memory.wf s.mem = true) : Memory.wf (s.storeOne a v).mem = true :=
  s.dataWrite_wf .word a v s.privileged false h

theorem State.storeOne_storeStops (a' : Word) : (s.storeOne a v).storeStops a' = s.storeStops a' := by
  obtain ⟨-, -, hc, -, -, hp, -⟩ := s.storeOne_keeps a v
  rw [State.storeStops, State.storeStops, State.aborts, State.aborts, State.privileged, State.privileged, hp, hc]

/-- A write shows its value on the data bus, aborted or not (45 R277). -/
theorem State.dataCycle_data_of_write : (s.dataCycle a .word true s.privileged false v).data = v := by
  show (if (_ && !true) = true then _ else v) = v
  rw [Bool.not_true, Bool.and_false]
  exact if_neg nofun

variable (hi : s.isolated = false)

include hi

theorem State.dataWrite_fst : (s.dataWrite .word a v s.privileged false).1 = s.storeStops a := by
  cases h : s.storeStops a with
  | true => rw [State.dataWrite_abort _ _ _ _ _ _ hi h]
  | false => rw [State.dataWrite_ok _ _ _ _ _ _ hi h]

theorem State.storeOne_mem : (s.storeOne a v).mem =
    if s.storeStops a then s.mem else Memory.putWord s.pins.bigend s.mem a v := by
  rw [State.storeOne]
  cases h : s.storeStops a with
  | true => rw [State.dataWrite_abort _ _ _ _ _ _ hi h]; rfl
  | false => rw [State.dataWrite_ok _ _ _ _ _ _ hi h]; rfl

theorem State.storeOne_bus : (s.storeOne a v).bus = s.bus ++ [s.dataCycle a .word true s.privileged false v] := by
  rw [State.storeOne]
  cases h : s.storeStops a with
  | true => rw [State.dataWrite_abort _ _ _ _ _ _ hi h]; rfl
  | false => rw [State.dataWrite_ok _ _ _ _ _ _ hi h]; rfl

theorem State.storeOne_dbg : (s.storeOne a v).dbg = s.dbg := s.dataWrite_dbg .word a v s.privileged false hi

/-- A byte outside an access that is not aborted keeps its value. -/
theorem State.storeOne_get (hw : Memory.wf s.mem = true) (x : Nat)
    (h : s.storeStops a = false → ¬ Size.word.touches a x) :
    Memory.get (s.storeOne a v).mem x = Memory.get s.mem x := by
  rw [s.storeOne_mem a v hi]
  split
  · rfl
  · next hs => exact Memory.get_putWord_of_ne _ _ _ _ _ hw (h (Bool.eq_false_iff.mpr hs))

end

/-! ### The loop -/

/-- The address of word `k` of a transfer that begins at `a` (45 R268). -/
def wordAddr (a : Word) (k : Nat) : Word := a + BitVec.ofNat 32 (4 * k)

theorem wordAddr_zero (a : Word) : wordAddr a 0 = a := BitVec.add_zero a

theorem wordAddr_succ (a : Word) (k : Nat) : wordAddr (a + 4#32) k = wordAddr a (k + 1) := addr_succ a k

/-- Different words of a transfer of at most 2^30 words share no byte. -/
theorem wordAddr_not_touches (a : Word) {k x : Nat} (hk : k ≠ 0)
    (h : x / 4 = a.toNat / 4) (hlt : k < 1073741824) : ¬ Size.word.touches (wordAddr a k) x := by
  intro ht
  have heq : x / 4 = (wordAddr a k).toNat / 4 := ht
  rw [wordAddr, BitVec.toNat_add, BitVec.toNat_ofNat] at heq
  omega

section

variable (vs : List Word)

theorem State.storeAll_dbg : ∀ (s : State) (b : Bool) (a : Word), s.isolated = false →
    (s.storeAll b a vs).2.dbg = s.dbg := by
  induction vs with
  | nil => exact fun s b a _ => rfl
  | cons v rest ih =>
    intro s b a hi
    obtain ⟨-, -, -, -, -, -, -, hi'⟩ := s.storeOne_keeps a v
    exact (ih (s.storeOne a v) _ _ (hi'.trans hi)).trans (s.storeOne_dbg a v hi)

/-- A store loop is aborted when one of its words is (45 R277). -/
theorem State.storeAll_aborted_iff : ∀ (s : State) (b : Bool) (a : Word), s.isolated = false →
    ((s.storeAll b a vs).1 = true ↔ b = true ∨ ∃ k < vs.length, s.storeStops (wordAddr a k) = true) := by
  induction vs with
  | nil => intro s b a _; simp [State.storeAll]
  | cons v rest ih =>
    intro s b a hi
    obtain ⟨-, -, -, -, -, -, -, hi'⟩ := s.storeOne_keeps a v
    have hrest := ih (s.storeOne a v) (b || s.storeStops a) (a + 4#32) (hi'.trans hi)
    rw [State.storeAll, s.dataWrite_fst a v hi]
    refine hrest.trans ?_
    simp only [Bool.or_eq_true, State.storeOne_storeStops, wordAddr_succ, or_assoc]
    refine or_congr_right ⟨?_, ?_⟩
    · rintro (h | ⟨k, hk, h⟩)
      · exact ⟨0, by simp, by rwa [wordAddr_zero]⟩
      · exact ⟨k + 1, by simpa using hk, h⟩
    · rintro ⟨_ | k, hk, h⟩
      · exact .inl (by rwa [wordAddr_zero] at h)
      · exact .inr ⟨k, by simpa using hk, h⟩

/-- Every write of a store loop is issued, at ascending addresses, aborted or not (45 R268, R277). -/
theorem State.storeAll_bus : ∀ (s : State) (b : Bool) (a : Word), s.isolated = false →
    ∃ cs : List BusCycle, (s.storeAll b a vs).2.bus = s.bus ++ cs ∧
      cs.map (fun c => c.addr) = (List.range vs.length).map (wordAddr a) ∧ cs.map (fun c => c.data) = vs ∧
      ∀ c ∈ cs, c.write = true ∧ c.fetch = false ∧ c.size = .word := by
  induction vs with
  | nil => exact fun s b a _ => ⟨[], (List.append_nil _).symm, rfl, rfl, nofun⟩
  | cons v rest ih =>
    intro s b a hi
    obtain ⟨-, -, -, -, -, -, -, hi'⟩ := s.storeOne_keeps a v
    obtain ⟨cs, hbus, haddr, hdata, hcs⟩ := ih (s.storeOne a v)
      (b || (s.dataWrite .word a v s.privileged false).1) (a + 4#32) (hi'.trans hi)
    refine ⟨s.dataCycle a .word true s.privileged false v :: cs, ?_, ?_,
      congrArg₂ (· :: ·) (s.dataCycle_data_of_write a v) hdata,
      List.forall_mem_cons.mpr ⟨⟨rfl, rfl, rfl⟩, hcs⟩⟩
    · refine hbus.trans ?_
      rw [s.storeOne_bus a v hi, List.append_assoc]
      rfl
    · rw [List.map_cons, haddr, List.length_cons, List.range_succ_eq_map, List.map_cons, List.map_map, wordAddr_zero]
      exact congrArg (a :: ·) (List.map_congr_left fun k _ => wordAddr_succ a k)

/-- A byte of no word that reaches memory keeps its value. -/
theorem State.storeAll_get (x : Nat) : ∀ (s : State) (b : Bool) (a : Word), s.isolated = false →
    Memory.wf s.mem = true →
    (∀ k < vs.length, s.storeStops (wordAddr a k) = false → ¬ Size.word.touches (wordAddr a k) x) →
    Memory.get (s.storeAll b a vs).2.mem x = Memory.get s.mem x := by
  induction vs with
  | nil => exact fun s b a _ _ _ => rfl
  | cons v rest ih =>
    intro s b a hi hw h
    obtain ⟨-, -, -, -, -, -, -, hi'⟩ := s.storeOne_keeps a v
    refine (ih (s.storeOne a v) _ _ (hi'.trans hi) (s.storeOne_wf a v hw) ?_).trans (s.storeOne_get a v hi hw x ?_)
    · intro k hk
      rw [State.storeOne_storeStops, wordAddr_succ]
      exact h (k + 1) (by simpa using hk)
    · simpa [wordAddr_zero] using h 0 (by simp)

/-- A word that is not aborted reaches memory (45 R271, R277). -/
theorem State.storeAll_wordAt : ∀ (s : State) (b : Bool) (a : Word), s.isolated = false → Memory.wf s.mem = true →
    vs.length ≤ 1073741824 → ∀ (k : Nat) (hk : k < vs.length), s.storeStops (wordAddr a k) = false →
    Memory.wordAt s.pins.bigend (s.storeAll b a vs).2.mem (wordAddr a k) = vs[k] := by
  induction vs with
  | nil => exact fun s b a _ _ _ k hk => absurd hk (Nat.not_lt_zero k)
  | cons v rest ih =>
    intro s b a hi hw hlen k hk hs
    obtain ⟨-, -, -, -, -, hp, -, hi'⟩ := s.storeOne_keeps a v
    rw [List.length_cons] at hlen hk
    cases k with
    | zero =>
      rw [wordAddr_zero] at hs ⊢
      refine (Memory.wordAt_congr _ (s.storeOne a v).mem _ _ fun x hx =>
        State.storeAll_get rest x (s.storeOne a v) _ _ (hi'.trans hi) (s.storeOne_wf a v hw) ?_).trans ?_
      · intro k hk' _
        rw [wordAddr_succ]
        exact wordAddr_not_touches a (by omega) hx (by omega)
      · rw [s.storeOne_mem a v hi, hs]
        exact Memory.wordAt_putWord _ _ _ _ hw
    | succ k =>
      have hrest := ih (s.storeOne a v) (b || (s.dataWrite .word a v s.privileged false).1) (a + 4#32) (hi'.trans hi)
        (s.storeOne_wf a v hw) (by omega) k (by omega)
      rw [State.storeOne_storeStops, wordAddr_succ, hp] at hrest
      exact hrest hs

end

end Sys2Proof.Machine
end

section
/-! O42 and O43: the store multiples, and the block transfers with the S bit (45_arm_block_swap.md). -/

namespace Sys2Proof.Machine

-- Elaborated one after the other: side by side, the threads of one large text pass the memory of the check.
set_option Elab.async false

/-! ### The registers of a list by their ranks -/

section

variable {list : BitVec 16}

theorem forall_rank_iff {P : Nat → Prop} : (∀ k < (regList list).length, P k) ↔
    ∀ r : Reg, list.getLsbD r.toNat = true → P (rankIn list r) := by
  have hmap := map_rankIn_regsBelow list le_rfl
  rw [regsBelow_sixteen] at hmap
  calc (∀ k < (regList list).length, P k)
      ↔ ∀ k ∈ (regList list).map (rankIn list), P k := by rw [hmap]; simp only [List.mem_range]
    _ ↔ ∀ r : Reg, list.getLsbD r.toNat = true → P (rankIn list r) := by
        simp only [List.forall_mem_map, mem_regList]

theorem exists_rank_iff {P : Nat → Prop} : (∃ k < (regList list).length, P k) ↔
    ∃ r : Reg, list.getLsbD r.toNat = true ∧ P (rankIn list r) := by
  have h := not_congr (forall_rank_iff (list := list) (P := fun k => ¬ P k))
  push Not at h
  exact h

/-- The register of rank `k` is the `k`-th of the list (45 R268). -/
theorem regList_getElem?_rank {r : Reg} (hr : list.getLsbD r.toNat = true) : (regList list)[rankIn list r]? = some r := by
  obtain ⟨post, hcut, -⟩ := regsBelow_cut list le_rfl hr r.isLt
  rw [← regsBelow_sixteen, hcut, ← length_regsBelow]
  exact List.getElem?_append_right le_rfl |>.trans (by rw [Nat.sub_self]; rfl)

theorem length_regList_le : (regList list).length ≤ 16 := by
  rw [regList, List.length_map]
  exact (List.length_filter_le _ _).trans_eq List.length_range

end

/-! ### The values of a store multiple -/

section

variable (s : State) (user u w : Bool) (rn : Reg) (list : BitVec 16)

/-- The value stored for a register (45 R271, R275): R15 is 12 ahead; the base, unless it is the first, the written-back
one. -/
def State.listValue (r : Reg) : Word :=
  if r = 15#4 then s.pc + 12#32
  else if user = true then s.readUser r
  else if r = rn ∧ w = true ∧ rankIn list r ≠ 0 then blockFinal u (s.operand rn) (listBytes list)
  else s.operand r

theorem State.blockValue_eq (r : Reg) : s.blockValue user rn (s.operand rn)
    (if w then blockFinal u (s.operand rn) (listBytes list) else s.operand rn) (decide (rankIn list r = 0)) r =
    s.listValue user u w rn list r := by
  unfold State.blockValue State.listValue
  refine if_congr Iff.rfl rfl (if_congr Iff.rfl rfl ?_)
  by_cases hr : r = rn
  · subst hr
    by_cases h0 : rankIn list r = 0 <;> cases w <;> simp [h0]
  · rw [if_neg hr, if_neg fun h => hr h.1]

/-- The first register has the rank 0, and no other has. -/
theorem State.blockValues_eq_map (base later : Word) (f : Reg → Nat) {rs : List Reg}
    (h : rs.map f = List.range rs.length) : s.blockValues user rn base later rs =
      rs.map fun r => s.blockValue user rn base later (decide (f r = 0)) r := by
  cases rs with
  | nil => rfl
  | cons r rest =>
    rw [List.length_cons, List.range_succ_eq_map, List.map_cons] at h
    obtain ⟨hr, hrest⟩ := List.cons.inj h
    rw [State.blockValues, List.map_cons, hr]
    refine congrArg _ (List.map_congr_left fun r' hr' => ?_)
    have hne : f r' ≠ 0 := by
      have hmem : f r' ∈ (List.range rest.length).map Nat.succ := hrest ▸ List.mem_map_of_mem hr'
      obtain ⟨n, -, hn⟩ := List.mem_map.mp hmem
      exact hn ▸ Nat.succ_ne_zero n
    rw [decide_eq_false hne]

/-- The words of a store multiple, before the write-back of its base. -/
def State.blockStore (p : Bool) : Bool × State :=
  s.storeAll false (blockStart p u (s.operand rn) (listBytes list))
    ((regList list).map (s.listValue user u w rn list))

theorem State.storeAll_blockValues (p : Bool) : s.storeAll false (blockStart p u (s.operand rn) (listBytes list))
    (s.blockValues user rn (s.operand rn)
      (if w then blockFinal u (s.operand rn) (listBytes list) else s.operand rn) (regList list)) =
    s.blockStore user u w rn list p := by
  have hmap := map_rankIn_regsBelow list le_rfl
  rw [regsBelow_sixteen] at hmap
  rw [State.blockValues_eq_map _ _ _ _ _ _ hmap]
  exact congrArg _ (List.map_congr_left fun r _ => s.blockValue_eq user u w rn list r)

variable {s user u w rn list} {p : Bool}

/-- A store multiple stores its words, writes its base back, and goes on or takes the data abort (45 R271, R277). -/
theorem State.storeMultiple_eq (hl : list ≠ 0#16) (hn : rn ≠ 15#4) (hw : (user && w) = false)
    (hp : user = true → s.privileged = true) : s.storeMultiple p u user w rn list =
      .next (if (s.blockStore user u w rn list p).1 then
        ((s.blockStore user u w rn list p).2.writeBase w rn
          (blockFinal u (s.operand rn) (listBytes list))).takeDataAbort
        else ((s.blockStore user u w rn list p).2.writeBase w rn
          (blockFinal u (s.operand rn) (listBytes list))).advance) := by
  have hmode : ¬ (user && !s.privileged) = true := by
    cases user <;> simp_all
  unfold State.storeMultiple
  dsimp only
  rw [blockExcluded_none hl hn hw]
  dsimp only
  rw [if_neg hmode, State.storeAll_blockValues]

/-! ### What the words of a store multiple change -/

theorem State.blockStore_keeps : s.storeKeeps (s.blockStore user u w rn list p).2 := State.storeAll_keeps _ _ _ _

variable (hi : s.isolated = false)

include hi

theorem State.blockStore_dbg : (s.blockStore user u w rn list p).2.dbg = s.dbg := State.storeAll_dbg _ _ _ _ hi

theorem State.blockStore_aborted_iff : (s.blockStore user u w rn list p).1 = true ↔
    ∃ r : Reg, list.getLsbD r.toNat = true ∧ s.storeStops (blockAddress p u (s.operand rn) list r) = true := by
  rw [State.blockStore, State.storeAll_aborted_iff _ _ _ _ hi, List.length_map, exists_rank_iff]
  exact or_iff_right nofun

theorem State.blockStore_get (hw : Memory.wf s.mem = true) (x : Nat)
    (h : ∀ r : Reg, list.getLsbD r.toNat = true → s.storeStops (blockAddress p u (s.operand rn) list r) = false →
      ¬ Size.word.touches (blockAddress p u (s.operand rn) list r) x) :
    Memory.get (s.blockStore user u w rn list p).2.mem x = Memory.get s.mem x := by
  refine State.storeAll_get _ x _ _ _ hi hw ?_
  rw [List.length_map]
  exact forall_rank_iff.mpr h

theorem State.blockStore_wordAt (hw : Memory.wf s.mem = true) {r : Reg} (hr : list.getLsbD r.toNat = true)
    (hs : s.storeStops (blockAddress p u (s.operand rn) list r) = false) :
    Memory.wordAt s.pins.bigend (s.blockStore user u w rn list p).2.mem (blockAddress p u (s.operand rn) list r) =
      s.listValue user u w rn list r := by
  have hlen : ((regList list).map (s.listValue user u w rn list)).length ≤ 1073741824 := by
    rw [List.length_map]
    exact length_regList_le.trans (by decide)
  obtain ⟨hk, hget⟩ := List.getElem?_eq_some_iff.mp (regList_getElem?_rank hr)
  refine (State.storeAll_wordAt _ s false (blockStart p u (s.operand rn) (listBytes list)) hi hw hlen (rankIn list r)
    (by rwa [List.length_map]) hs).trans ?_
  rw [List.getElem_map, hget]

theorem State.blockStore_bus : ∃ cs : List BusCycle, (s.blockStore user u w rn list p).2.bus = s.bus ++ cs ∧
    cs.map (fun c => c.addr) = (regList list).map (blockAddress p u (s.operand rn) list) ∧
    cs.map (fun c => c.data) = (regList list).map (s.listValue user u w rn list) ∧
    ∀ c ∈ cs, c.write = true ∧ c.fetch = false ∧ c.size = .word := by
  obtain ⟨cs, hbus, haddr, hrest⟩ := State.storeAll_bus ((regList list).map (s.listValue user u w rn list)) s false
    (blockStart p u (s.operand rn) (listBytes list)) hi
  refine ⟨cs, hbus, haddr.trans ?_, hrest⟩
  rw [List.length_map, ← regsBelow_sixteen, ← map_rankIn_regsBelow list le_rfl, List.map_map]
  rfl

end

/-! ### The two ends of a store multiple -/

section

variable {s : State} (user p u w : Bool) {rn : Reg} {list : BitVec 16} (hl : list ≠ 0#16) (hn : rn ≠ 15#4)
  (hw : (user && w) = false) (hp : user = true → s.privileged = true) (hi : s.isolated = false)
  (hm : Memory.wf s.mem = true)

include hl hn hw hp hi hm

/-- A store multiple of which no word is aborted (45 R271, R275). -/
theorem State.storeMultiple_of_ok
    (hok : ∀ r : Reg, list.getLsbD r.toNat = true → s.storeStops (blockAddress p u (s.operand rn) list r) = false) :
    ∃ t : State, s.storeMultiple p u user w rn list = .next t ∧
      (∀ r : Reg, list.getLsbD r.toNat = true →
        Memory.wordAt s.pins.bigend t.mem (blockAddress p u (s.operand rn) list r) = s.listValue user u w rn list r) ∧
      (∀ a : Nat, (∀ r : Reg, list.getLsbD r.toNat = true →
        ¬ Size.word.touches (blockAddress p u (s.operand rn) list r) a) → Memory.get t.mem a = Memory.get s.mem a) ∧
      (w = true → t.getReg (physReg s.cpsr.m rn) = blockFinal u (s.operand rn) (listBytes list)) ∧
      s.keepsRegs t (if w then [physReg s.cpsr.m rn] else []) ∧ t.pc = s.pc + s.instrBytes ∧ t.cpsr = s.cpsr ∧
      s.keepsSystem t := by
  have hna : ¬ (s.blockStore user u w rn list p).1 = true := by
    rw [State.blockStore_aborted_iff hi]
    rintro ⟨r, hr, hs⟩
    rw [hok r hr] at hs
    exact absurd hs nofun
  obtain ⟨hregs, hpc, hc, hsp, -, hpins, -⟩ := s.blockStore_keeps (user := user) (u := u) (w := w) (rn := rn)
    (list := list) (p := p)
  have hreg (q : PReg) : ((s.blockStore user u w rn list p).2.writeBase w rn
      (blockFinal u (s.operand rn) (listBytes list))).getReg q =
      if w = true ∧ q = physReg s.cpsr.m rn then blockFinal u (s.operand rn) (listBytes list) else s.getReg q := by
    rw [State.writeBase_getReg, hc, State.getReg, hregs]
    rfl
  refine ⟨_, State.storeMultiple_eq hl hn hw hp, ?_⟩
  rw [if_neg hna]
  simp only [State.advance_mem, State.advance_getReg, State.advance_cpsr, State.writeBase_mem, State.writeBase_cpsr]
  refine ⟨fun r hr => State.blockStore_wordAt hi hm hr (hok r hr),
    fun a ha => State.blockStore_get hi hm a fun r hr _ => ha r hr, ?_, ?_, ?_, hc, ?_⟩
  · exact fun hwt => (hreg _).trans (if_pos ⟨hwt, rfl⟩)
  · intro q hq
    refine (hreg q).trans (if_neg ?_)
    rintro ⟨rfl, rfl⟩
    exact hq (List.mem_singleton_self _)
  · rw [State.advance_pc, State.instrBytes, State.writeBase_pc, State.writeBase_cpsr, hpc, hc]
    rfl
  · exact ⟨(State.writeBase_spsrs _ _ _ _).trans hsp,
      (State.writeBase_dbg _ _ _ _).trans (State.blockStore_dbg hi), (State.writeBase_pins _ _ _ _).trans hpins⟩

/-- A store multiple of which a word is aborted issues every write and takes the data abort (45 R277). -/
theorem State.storeMultiple_of_aborted
    (hab : ∃ r : Reg, list.getLsbD r.toNat = true ∧ s.storeStops (blockAddress p u (s.operand rn) list r) = true) :
    ∃ t : State, s.storeMultiple p u user w rn list = .next t ∧ s.inDataAbort t ∧
      (∀ r : Reg, list.getLsbD r.toNat = true → s.storeStops (blockAddress p u (s.operand rn) list r) = false →
        Memory.wordAt s.pins.bigend t.mem (blockAddress p u (s.operand rn) list r) = s.listValue user u w rn list r) ∧
      (∀ a : Nat, (∀ r : Reg, list.getLsbD r.toNat = true →
        s.storeStops (blockAddress p u (s.operand rn) list r) = false →
        ¬ Size.word.touches (blockAddress p u (s.operand rn) list r) a) → Memory.get t.mem a = Memory.get s.mem a) ∧
      (∃ cs : List BusCycle, t.bus = s.bus ++ cs ∧
        cs.map (fun c => c.addr) = (regList list).map (blockAddress p u (s.operand rn) list) ∧
        cs.map (fun c => c.data) = (regList list).map (s.listValue user u w rn list) ∧
        ∀ c ∈ cs, c.write = true ∧ c.fetch = false ∧ c.size = .word) ∧
      (∀ q : PReg, q ≠ .r14Abt → t.getReg q =
        if w = true ∧ q = physReg s.cpsr.m rn then blockFinal u (s.operand rn) (listBytes list) else s.getReg q) := by
  obtain ⟨hregs, hpc, hc, -⟩ := s.blockStore_keeps (user := user) (u := u) (w := w) (rn := rn) (list := list) (p := p)
  obtain ⟨cs, hbus, hcs⟩ := s.blockStore_bus (user := user) (u := u) (w := w) (rn := rn) (list := list) (p := p) hi
  refine ⟨_, State.storeMultiple_eq hl hn hw hp, ?_⟩
  rw [if_pos ((State.blockStore_aborted_iff hi).mpr hab)]
  have hmem : (((s.blockStore user u w rn list p).2.writeBase w rn
      (blockFinal u (s.operand rn) (listBytes list))).takeDataAbort).mem = (s.blockStore user u w rn list p).2.mem :=
    State.writeBase_mem _ _ _ _
  rw [hmem]
  refine ⟨State.inDataAbort_takeDataAbort ((State.writeBase_pc _ _ _ _).trans hpc)
    ((State.writeBase_cpsr _ _ _ _).trans hc), fun r hr hs => State.blockStore_wordAt hi hm hr hs,
    fun a ha => State.blockStore_get hi hm a ha, ⟨cs, (State.writeBase_bus _ _ _ _).trans hbus, hcs⟩, ?_⟩
  intro q hq
  rw [State.takeDataAbort_getReg, if_neg hq, State.writeBase_getReg, hc, State.getReg, hregs]
  rfl

end

/-! ### The instructions -/

theorem exec_stm_pass {s : State} {c : Cond} (hc : condPassed c s.cpsr = true) (p u sf w : Bool) (rn : Reg)
    (list : BitVec 16) : exec (.stm c p u sf w rn list) s = s.storeMultiple p u sf w rn list :=
  State.conditional_pass s c (fun s => s.storeMultiple p u sf w rn list) hc

/-- The store multiples without the S bit are one shared operation (45 R265, 48 R394, R395, R399). -/
theorem exec_storesMany {i : Instr} {s : State} {p u w : Bool} {rn : Reg} {list : BitVec 16}
    (h : i.storesMany = some (p, u, w, rn, list)) (hp : i.passes s) (hwf : i.wf = true) :
    exec i s = s.storeMultiple p u false w rn list ∧ rn ≠ 15#4 ∧ list ≠ 0#16 := by
  cases i
  case stm c p' u' sf w' rn' list' =>
    cases sf with
    | true => exact absurd h nofun
    | false =>
      obtain ⟨rfl, rfl, rfl, rfl, rfl⟩ := by simpa only [Instr.storesMany, Option.some.injEq, Prod.mk.injEq] using h
      exact ⟨exec_stm_pass (hp c rfl) _ _ _ _ _ _, by simp_all [Instr.wf], by simp_all [Instr.wf]⟩
  case tPush list' =>
    obtain ⟨rfl, rfl, rfl, rfl, rfl⟩ := by simpa only [Instr.storesMany, Option.some.injEq, Prod.mk.injEq] using h
    exact ⟨rfl, by decide, fun h0 => absurd ((loList_eq_zero_iff _).mp h0) (by simpa [Instr.wf] using hwf)⟩
  case tPushLr list' =>
    obtain ⟨rfl, rfl, rfl, rfl, rfl⟩ := by simpa only [Instr.storesMany, Option.some.injEq, Prod.mk.injEq] using h
    exact ⟨rfl, by decide, (loList_or_ne_zero _).1⟩
  case tStmia rb list' =>
    obtain ⟨rfl, rfl, rfl, rfl, rfl⟩ := by simpa only [Instr.storesMany, Option.some.injEq, Prod.mk.injEq] using h
    exact ⟨rfl, loReg_ne rb, fun h0 => absurd ((loList_eq_zero_iff _).mp h0) (by simpa [Instr.wf] using hwf)⟩
  all_goals exact absurd h (by simp [Instr.storesMany])

/-- Settles O42: the words of the list, the write-back, and the end of the loop, by whether a word is aborted. -/
theorem storeMultiple : Obligations.StoreMultiple := by
  refine ⟨?_, ?_⟩
  · intro s i p u w rn list h hwf hp hi hm base final value hok
    obtain ⟨hexec, hn, hl⟩ := exec_storesMany h hp hwf
    rw [hexec]
    exact State.storeMultiple_of_ok false p u w hl hn rfl nofun hi hm hok
  · intro s i user p u w rn list h hwf hp hi hm base final address stops value hab
    rcases h with ⟨rfl, h⟩ | ⟨rfl, rfl, hmode, c, rfl⟩
    · obtain ⟨hexec, hn, hl⟩ := exec_storesMany h hp hwf
      rw [hexec]
      exact State.storeMultiple_of_aborted false p u w hl hn rfl nofun hi hm hab
    · rw [exec_stm_pass (hp c rfl)]
      exact State.storeMultiple_of_aborted true p u false (by simp_all [Instr.wf]) (by simp_all [Instr.wf]) rfl
        (fun _ => bne_iff_ne.mpr hmode) hi hm hab

/-! ### The S bit -/

theorem State.privileged_of_spsr {s : State} {q : Psr} (h : s.spsr = some q) : s.privileged = true := by
  refine bne_iff_ne.mpr fun hm => ?_
  rw [s.spsr_user hm] at h
  exact absurd h nofun

theorem BitVec.ne_zero_of_getLsbD {n k : Nat} {x : BitVec n} (h : x.getLsbD k = true) : x ≠ 0#n := by
  rintro rfl
  rw [BitVec.getLsbD_zero] at h
  exact absurd h nofun

section

variable {s : State} {c : Cond} {p u w : Bool} {rn : Reg} {list : BitVec 16} (hc : condPassed c s.cpsr = true)
  (hn : rn ≠ 15#4)

include hc hn

/-- LDM with the S bit and R15 ends as the return from an exception (45 R273). -/
theorem exec_ldm_returns {q : Psr} (h15 : list.getLsbD 15 = true) (hq : s.spsr = some q) (hi : s.isolated = false)
    (hok : ∀ r : Reg, list.getLsbD r.toNat = true →
      s.aborts (blockAddress p u (s.operand rn) list r) .word false false s.privileged = false) :
    exec (.ldm c p u true w rn list) s = .next (((s.blockLoad false p u w rn list).state.withCpsr q).branch
      (Memory.wordAt s.pins.bigend s.mem (blockAddress p u (s.operand rn) list 15#4))) := by
  obtain ⟨-, hcpsr, hsp, -⟩ := s.blockLoad_keeps false p u w rn list
  have hspsr : (s.blockLoad false p u w rn list).state.spsr = some q := by
    rw [State.spsr, hcpsr, hsp]
    exact hq
  rw [exec_ldm_pass hc, State.loadMultiple_of_ok (user := false) (BitVec.ne_zero_of_getLsbD h15) hn rfl (by rw [h15]; rfl)
    (fun _ => State.privileged_of_spsr hq) (fun _ _ h => absurd (hq.symm.trans h) nofun)
    (s.blockLoad_not_aborted hi hok), if_pos h15, if_pos rfl, State.exceptionReturn_of_spsr _ hspsr,
    s.blockLoad_newPc hi hok h15]

/-- LDM with the S bit and without R15 loads the User bank (45 R272). -/
theorem exec_ldm_user (hl : list ≠ 0#16) (h15 : list.getLsbD 15 = false) (hm : s.cpsr.m ≠ modeUsr)
    (hi : s.isolated = false) (hok : ∀ r : Reg, list.getLsbD r.toNat = true →
      s.aborts (blockAddress p u (s.operand rn) list r) .word false false s.privileged = false) :
    exec (.ldm c p u true false rn list) s =
      .next { (s.blockLoad true p u false rn list).state.advance with hazard := true } := by
  rw [exec_ldm_pass hc, State.loadMultiple_of_ok (user := true) hl hn rfl (by rw [h15]; rfl)
    (fun _ => bne_iff_ne.mpr hm) (fun _ h => absurd (h15.symm.trans h) nofun) (s.blockLoad_not_aborted hi hok), if_neg
    (Bool.eq_false_iff.mp h15)]

/-- In User mode the forms with the S bit stop (45 R272, U33). -/
theorem exec_ldm_in_user_mode (hl : list ≠ 0#16) (hm : s.cpsr.m = modeUsr) (hw : list.getLsbD 15 = true ∨ w = false) :
    exec (.ldm c p u true w rn list) s = .fault .userBankInUserMode := by
  have hx : ((true && !list.getLsbD 15) && w) = false := by
    rcases hw with h | h <;> rw [h]
    · rfl
    · exact Bool.and_false _
  rw [exec_ldm_pass hc]
  unfold State.loadMultiple
  dsimp only
  rw [blockExcluded_none hl hn hx]
  exact if_pos (by rw [State.privileged, hm]; rfl)

theorem exec_stm_in_user_mode (hl : list ≠ 0#16) (hm : s.cpsr.m = modeUsr) :
    exec (.stm c p u true false rn list) s = .fault .userBankInUserMode := by
  rw [exec_stm_pass hc]
  unfold State.storeMultiple
  dsimp only
  rw [blockExcluded_none hl hn rfl]
  exact if_pos (by rw [State.privileged, hm]; rfl)

/-- In System mode LDM with the S bit and R15 has no SPSR to return from (45 R273, U6). -/
theorem exec_ldm_in_system_mode (h15 : list.getLsbD 15 = true) (hm : s.cpsr.m = modeSys) :
    exec (.ldm c p u true w rn list) s = .fault .noSpsr := by
  have hx : ((true && !list.getLsbD 15) && w) = false := by rw [h15]; rfl
  rw [exec_ldm_pass hc]
  unfold State.loadMultiple
  dsimp only
  rw [blockExcluded_none (BitVec.ne_zero_of_getLsbD h15) hn hx]
  dsimp only
  rw [if_neg (by rw [State.privileged, hm]; decide), if_pos (by rw [h15, s.spsr_system hm]; rfl)]

end

/-- Settles O43: the forms with the S bit, by R15 in the list and by the mode. -/
theorem blockTransferSBit : Obligations.BlockTransferSBit := by
  refine ⟨?_, ?_, ?_, ?_, fun s c p u w rn list hc hn h15 hm => exec_ldm_in_system_mode hc hn h15 hm⟩
  · intro s c p u w rn list q _ hc hn h15 hq hi hok word
    exact ⟨_, exec_ldm_returns hc hn h15 hq hi hok, rfl, rfl, rfl,
      fun r hr h => s.blockLoad_getReg_word (user := false) hi hok hr h,
      fun hw hr => State.blockLoad_getReg_base (user := false) hn nofun hw hr,
      fun y hy hw => State.blockLoad_getReg_frame (user := false) hy hw, State.blockLoad_keepsMem,
      State.blockLoad_keepsSystem hi⟩
  · intro s c p u rn list ht hc hn hl h15 hm hi hok word
    have hne {r : Reg} (hr : list.getLsbD r.toNat = true) : r ≠ 15#4 := by
      rintro rfl
      exact absurd (h15.symm.trans hr) nofun
    refine ⟨_, exec_ldm_user hc hn hl h15 hm hi hok, ?_, ?_, fun r hr => s.blockLoad_getReg_word hi hok hr (hne hr),
      fun y hy => State.blockLoad_getReg_frame (fun r hr _ => hy r hr) nofun, State.blockLoad_keepsMem,
      State.blockLoad_keepsSystem hi⟩
    · obtain ⟨-, hcpsr, -⟩ := s.blockLoad_keeps true p u false rn list
      exact hcpsr
    · exact State.blockLoad_next_pc.trans (congrArg (s.pc + ·) (State.instrBytes_arm ht))
  · intro s c p u rn list ht hc hn hl hm hi hwf hok
    obtain ⟨t, hexec, hword, hmem, -, hregs, hpc, hcpsr, hsys⟩ := State.storeMultiple_of_ok true p u false hl hn rfl
      (fun _ => bne_iff_ne.mpr hm) hi hwf hok
    exact ⟨t, (exec_stm_pass hc _ _ _ _ _ _).trans hexec, hcpsr, hpc.trans (congrArg (s.pc + ·) (State.instrBytes_arm ht)),
      hword, hmem, hregs, hsys⟩
  · intro s c p u w rn list hc hn hl hm
    refine ⟨exec_ldm_in_user_mode hc hn hl hm, ?_⟩
    rintro rfl
    exact exec_stm_in_user_mode hc hn hl hm

end Sys2Proof.Machine
end

section
/-! O48: LDC and STC accepted by a coprocessor (46 R301 to R304). -/

namespace Sys2Proof.Machine

-- Elaborated one after the other: side by side, the threads of one large text pass the memory of the check.
set_option Elab.async false

/-! ### The words of an LDC -/

/-- The state after some memory cycles. -/
def State.logCycles (s : State) (cs : List BusCycle) : State := { s with bus := s.bus ++ cs }

theorem State.logCycles_logCycle (s : State) (c : BusCycle) (cs : List BusCycle) :
    (s.logCycle c).logCycles cs = s.logCycles (c :: cs) :=
  congrArg (fun b => { s with bus := b }) (List.append_assoc s.bus [c] cs)

/-- A word load from the address is aborted. -/
def State.loadStops (s : State) (a : Word) : Bool := s.aborts a .word false false s.privileged

/-- The first `n` words of memory from an address (46 R302). -/
def State.wordsFrom (s : State) (a : Word) (n : Nat) : List Word :=
  (List.range n).map fun k => Memory.wordAt s.pins.bigend s.mem (wordAddr a k)

theorem State.wordsFrom_succ (s : State) (a : Word) (n : Nat) :
    s.wordsFrom a (n + 1) = Memory.wordAt s.pins.bigend s.mem a :: s.wordsFrom (a + 4#32) n := by
  rw [State.wordsFrom, List.range_succ_eq_map, List.map_cons, List.map_map, wordAddr_zero]
  exact congrArg (_ :: ·) (List.map_congr_left fun k _ =>
    congrArg (Memory.wordAt s.pins.bigend s.mem) (wordAddr_succ a k).symm)

section

variable (vs : List Word)

/-- One word of an LDC that is not aborted. -/
theorem State.coprocLoad_cons_ok {s : State} {a : Word} (v : Word) (got : List Word) (hi : s.isolated = false)
    (ha : s.loadStops a = false) : ∃ c : BusCycle, s.coprocLoad got a (v :: vs) =
      (s.logCycle c).coprocLoad (got ++ [Memory.wordAt s.pins.bigend s.mem a]) (a + 4#32) vs := by
  refine ⟨s.dataCycle a .word false s.privileged false (Memory.wordAt s.pins.bigend s.mem a), ?_⟩
  rw [State.coprocLoad, State.dataRead_ok _ _ _ _ _ hi ha]
  rfl

/-- An LDC of which no word is aborted gives the words of memory to the coprocessor. -/
theorem State.coprocLoad_ok : ∀ (s : State) (got : List Word) (a : Word), s.isolated = false →
    (∀ k < vs.length, s.loadStops (wordAddr a k) = false) →
    ∃ cs : List BusCycle, s.coprocLoad got a vs = (false, got ++ s.wordsFrom a vs.length, s.logCycles cs) := by
  induction vs with
  | nil =>
    intro s got a _ _
    refine ⟨[], ?_⟩
    show (false, got, s) = (false, got ++ [], { s with bus := s.bus ++ [] })
    rw [List.append_nil, List.append_nil]
  | cons v rest ih =>
    intro s got a hi hok
    obtain ⟨c, hc⟩ := s.coprocLoad_cons_ok rest v got hi (by simpa [wordAddr_zero] using hok 0 (by simp))
    obtain ⟨cs, hcs⟩ := ih (s.logCycle c) (got ++ [Memory.wordAt s.pins.bigend s.mem a]) (a + 4#32) hi fun k hk => by
      rw [wordAddr_succ]
      exact hok (k + 1) (by simpa using hk)
    refine ⟨c :: cs, ?_⟩
    rw [hc, hcs, List.length_cons, State.wordsFrom_succ, List.append_assoc, State.logCycles_logCycle]
    rfl

/-- An LDC stops at its first aborted word, whose access is made (46 R302, D16). -/
theorem State.coprocLoad_abort : ∀ (s : State) (got : List Word) (a : Word) (bad : Nat), s.isolated = false →
    bad < vs.length → (∀ k < bad, s.loadStops (wordAddr a k) = false) → s.loadStops (wordAddr a bad) = true →
    ∃ cs : List BusCycle, cs.length = bad + 1 ∧
      s.coprocLoad got a vs = (true, got ++ s.wordsFrom a bad, s.logCycles cs) := by
  induction vs with
  | nil => exact fun s got a bad _ hlt => absurd hlt (Nat.not_lt_zero bad)
  | cons v rest ih =>
    intro s got a bad hi hlt hok hbad
    cases bad with
    | zero =>
      rw [wordAddr_zero] at hbad
      refine ⟨[s.dataCycle a .word false s.privileged false (Memory.wordAt s.pins.bigend s.mem a)], rfl, ?_⟩
      rw [State.coprocLoad, State.dataRead_abort _ _ _ _ _ hi hbad]
      exact congrArg (fun g => (true, g, _)) (List.append_nil got).symm
    | succ bad =>
      obtain ⟨c, hc⟩ := s.coprocLoad_cons_ok rest v got hi (by simpa [wordAddr_zero] using hok 0 (by simp))
      obtain ⟨cs, hlen, hcs⟩ := ih (s.logCycle c) (got ++ [Memory.wordAt s.pins.bigend s.mem a]) (a + 4#32) bad hi
        (by simpa using hlt) (fun k hk => by rw [wordAddr_succ]; exact hok (k + 1) (by omega))
        (by rw [wordAddr_succ]; exact hbad)
      refine ⟨c :: cs, congrArg (· + 1) hlen, ?_⟩
      rw [hc, hcs, State.wordsFrom_succ, List.append_assoc, State.logCycles_logCycle]
      rfl

/-! ### The words of an STC -/

section

variable {s : State} {a v : Word} {rest : List Word} (hi : s.isolated = false)

include hi

/-- One word of a store loop or an STC that is not aborted. -/
theorem State.coprocStore_cons (h : s.storeStops a = false) :
    s.coprocStore a (v :: rest) = (s.storeOne a v).coprocStore (a + 4#32) rest := by
  rw [State.coprocStore, s.dataWrite_fst a v hi, h]
  rfl

theorem State.storeAll_cons (h : s.storeStops a = false) :
    s.storeAll false a (v :: rest) = (s.storeOne a v).storeAll false (a + 4#32) rest := by
  rw [State.storeAll, s.dataWrite_fst a v hi, h]
  rfl

end

/-- An STC of which no word is aborted stores like a store multiple (46 R303). -/
theorem State.coprocStore_ok : ∀ (s : State) (a : Word), s.isolated = false →
    (∀ k < vs.length, s.storeStops (wordAddr a k) = false) →
    s.coprocStore a vs = (false, (s.storeAll false a vs).2) := by
  induction vs with
  | nil => exact fun s a _ _ => rfl
  | cons v rest ih =>
    intro s a hi hok
    obtain ⟨-, -, -, -, -, -, -, hi'⟩ := s.storeOne_keeps a v
    have h0 : s.storeStops a = false := by simpa [wordAddr_zero] using hok 0 (by simp)
    rw [State.coprocStore_cons hi h0, State.storeAll_cons hi h0]
    refine ih _ _ (hi'.trans hi) fun k hk => ?_
    rw [State.storeOne_storeStops, wordAddr_succ]
    exact hok (k + 1) (by simpa using hk)

/-- An STC stores like a store multiple as far as its first aborted word, whose access is made (46 R303, D16). -/
theorem State.coprocStore_abort : ∀ (s : State) (a : Word) (bad : Nat), s.isolated = false → bad < vs.length →
    (∀ k < bad, s.storeStops (wordAddr a k) = false) → s.storeStops (wordAddr a bad) = true →
    s.coprocStore a vs = (true, (s.storeAll false a (vs.take (bad + 1))).2) := by
  induction vs with
  | nil => exact fun s a bad _ hlt => absurd hlt (Nat.not_lt_zero bad)
  | cons v rest ih =>
    intro s a bad hi hlt hok hbad
    rw [List.take_succ_cons]
    cases bad with
    | zero =>
      rw [wordAddr_zero] at hbad
      rw [State.coprocStore, s.dataWrite_fst a v hi, hbad]
      rfl
    | succ bad =>
      obtain ⟨-, -, -, -, -, -, -, hi'⟩ := s.storeOne_keeps a v
      have h0 : s.storeStops a = false := by simpa [wordAddr_zero] using hok 0 (by simp)
      rw [State.coprocStore_cons hi h0, State.storeAll_cons hi h0]
      refine ih _ _ bad (hi'.trans hi) (by simpa using hlt) (fun k hk => ?_) ?_
      · rw [State.storeOne_storeStops, wordAddr_succ]
        exact hok (k + 1) (by omega)
      · rw [State.storeOne_storeStops, wordAddr_succ]
        exact hbad

end

/-- What the words of an STC change, none of them aborted. -/
theorem State.coprocStore_ok_spec {s : State} {a : Word} {vs : List Word} (hi : s.isolated = false)
    (hm : Memory.wf s.mem = true) (hlen : vs.length ≤ 1073741824)
    (hok : ∀ k < vs.length, s.storeStops (wordAddr a k) = false) :
    ∃ t : State, s.coprocStore a vs = (false, t) ∧ s.storeKeeps t ∧ t.dbg = s.dbg ∧
      (∀ k < vs.length, Memory.wordAt s.pins.bigend t.mem (wordAddr a k) = vs.getD k 0#32) ∧
      (∀ x : Nat, (∀ k < vs.length, ¬ Size.word.touches (wordAddr a k) x) → Memory.get t.mem x = Memory.get s.mem x) := by
  refine ⟨_, State.coprocStore_ok vs s a hi hok, State.storeAll_keeps _ _ _ _, State.storeAll_dbg _ _ _ _ hi,
    fun k hk => ?_, fun x hx => State.storeAll_get vs x s false a hi hm fun k hk _ => hx k hk⟩
  rw [List.getD_eq_getElem _ _ hk]
  exact State.storeAll_wordAt vs s false a hi hm hlen k hk (hok k hk)

/-- What the words of an STC change as far as the first aborted one: that one only makes its access (46 R303). -/
theorem State.coprocStore_abort_spec {s : State} {a : Word} {vs : List Word} {bad : Nat} (hi : s.isolated = false)
    (hm : Memory.wf s.mem = true) (hlen : vs.length ≤ 1073741824) (hlt : bad < vs.length)
    (hok : ∀ k < bad, s.storeStops (wordAddr a k) = false) (hbad : s.storeStops (wordAddr a bad) = true) :
    ∃ t : State, s.coprocStore a vs = (true, t) ∧ s.storeKeeps t ∧ t.bus.length = s.bus.length + (bad + 1) ∧
      (∀ k < bad, Memory.wordAt s.pins.bigend t.mem (wordAddr a k) = vs.getD k 0#32) ∧
      (∀ x : Nat, (∀ k < bad, ¬ Size.word.touches (wordAddr a k) x) → Memory.get t.mem x = Memory.get s.mem x) := by
  have htake : (vs.take (bad + 1)).length = bad + 1 := List.length_take_of_le hlt
  refine ⟨_, State.coprocStore_abort vs s a bad hi hlt hok hbad, State.storeAll_keeps _ _ _ _, ?_, fun k hk => ?_,
    fun x hx => State.storeAll_get _ x s false a hi hm fun k hk hs => hx k (Nat.lt_of_le_of_ne (by omega) ?_)⟩
  · obtain ⟨cs, hbus, -, hdata, -⟩ := State.storeAll_bus (vs.take (bad + 1)) s false a hi
    rw [hbus, List.length_append, ← htake, ← hdata, List.length_map]
  · rw [List.getD_eq_getElem _ _ (by omega)]
    exact (State.storeAll_wordAt _ s false a hi hm (by omega) k (by omega) (hok k hk)).trans List.getElem_take
  · rintro rfl
    exact absurd (hbad.symm.trans hs) nofun

/-! ### The instructions -/

section

variable (s : State) (p u w : Bool) (rn : Reg) (off : BitVec 8)

/-- A coprocessor data transfer with its base written back, before its first word (46 R301). -/
def State.coprocBase : State := s.writeBase w rn (s.coprocAddress p u rn off).2

@[simp] theorem State.coprocBase_pc : (s.coprocBase p u w rn off).pc = s.pc := State.writeBase_pc _ _ _ _

@[simp] theorem State.coprocBase_cpsr : (s.coprocBase p u w rn off).cpsr = s.cpsr := State.writeBase_cpsr _ _ _ _

@[simp] theorem State.coprocBase_mem : (s.coprocBase p u w rn off).mem = s.mem := State.writeBase_mem _ _ _ _

@[simp] theorem State.coprocBase_pins : (s.coprocBase p u w rn off).pins = s.pins := State.writeBase_pins _ _ _ _

@[simp] theorem State.coprocBase_bus : (s.coprocBase p u w rn off).bus = s.bus := State.writeBase_bus _ _ _ _

@[simp] theorem State.coprocBase_cpLog : (s.coprocBase p u w rn off).cpLog = s.cpLog := State.writeBase_cpLog _ _ _ _

@[simp] theorem State.coprocBase_isolated : (s.coprocBase p u w rn off).isolated = s.isolated :=
  State.writeBase_isolated _ _ _ _

theorem State.coprocBase_keepsSystem : s.keepsSystem (s.coprocBase p u w rn off) :=
  ⟨State.writeBase_spsrs _ _ _ _, State.writeBase_dbg _ _ _ _, State.writeBase_pins _ _ _ _⟩

theorem State.coprocBase_getReg (q : PReg) : (s.coprocBase p u w rn off).getReg q =
    if w = true ∧ q = physReg s.cpsr.m rn then (s.coprocAddress p u rn off).2 else s.getReg q :=
  State.writeBase_getReg _ _ _ _ _

theorem State.coprocBase_storeStops (a : Word) : (s.coprocBase p u w rn off).storeStops a = s.storeStops a := by
  rw [State.storeStops, State.coprocBase, State.writeBase_aborts, State.writeBase_privileged]
  rfl

theorem State.coprocBase_loadStops (a : Word) : (s.coprocBase p u w rn off).loadStops a = s.loadStops a := by
  rw [State.loadStops, State.coprocBase, State.writeBase_aborts, State.writeBase_privileged]
  rfl

theorem State.coprocBase_wordsFrom (a : Word) (n : Nat) :
    (s.coprocBase p u w rn off).wordsFrom a n = s.wordsFrom a n := by
  rw [State.wordsFrom, State.coprocBase, State.writeBase_mem, State.writeBase_pins]
  rfl

theorem State.coprocBase_next_pc (ht : s.cpsr.t = false) :
    (s.coprocBase p u w rn off).pc + (s.coprocBase p u w rn off).instrBytes = s.pc + 4#32 := by
  rw [State.instrBytes_arm (by rwa [State.coprocBase_cpsr]), State.coprocBase_pc]

theorem State.coprocBase_keepsRegs :
    s.keepsRegs (s.coprocBase p u w rn off) (if w then [physReg s.cpsr.m rn] else []) := by
  intro q hq
  rw [State.coprocBase_getReg, if_neg]
  rintro ⟨rfl, rfl⟩
  exact hq (List.mem_singleton_self _)

variable {s p u w rn off} {c : Cond} {cp crd : BitVec 4} {n : Bool} {v : Word} {vs : List Word}
  (hc : condPassed c s.cpsr = true) (hn : w = true → rn ≠ 15#4) (hcp : cp ≠ 14#4)
  (hp : s.pins.coprocPresent.getLsbD cp.toNat = true) (hr : s.inp.cop = .ready v vs)

include hc hn hcp hp hr

theorem exec_ldc_ready {aborted : Bool} {words : List Word} {t : State} (h : (s.coprocBase p u w rn off).coprocLoad []
    (s.coprocAddress p u rn off).1 (v :: vs) = (aborted, words, t)) : exec (.ldc c p u n w rn crd cp off) s =
      .next (if aborted then (t.logEvent (.load cp crd n words)).takeDataAbort
        else (t.logEvent (.load cp crd n words)).advance) := by
  show execLdc c p u n w rn crd cp off s = _
  have hx : ¬ (rn = 15#4 && w) = true := by
    cases w <;> simp_all
  rw [execLdc, State.conditional_pass _ _ _ hc, if_neg hx, State.offer_ready hcp hp hr]
  dsimp only
  rw [← State.coprocBase, h]

theorem exec_stc_ready {aborted : Bool} {t : State} (h : (s.coprocBase p u w rn off).coprocStore
    (s.coprocAddress p u rn off).1 (v :: vs) = (aborted, t)) : exec (.stc c p u n w rn crd cp off) s =
      .next (if aborted then (t.logEvent (.store cp crd n (v :: vs))).takeDataAbort
        else (t.logEvent (.store cp crd n (v :: vs))).advance) := by
  show execStc c p u n w rn crd cp off s = _
  have hx : ¬ (rn = 15#4 && w) = true := by
    cases w <;> simp_all
  rw [execStc, State.conditional_pass _ _ _ hc, if_neg hx, State.offer_ready hcp hp hr]
  dsimp only
  rw [← State.coprocBase, h]

end

/-- Settles O48: the words of the loop and the end of the instruction, by whether a word is aborted. -/
theorem coprocessorDataTransfers : Obligations.CoprocessorDataTransfers := by
  intro s c p u n w rn crd cp off v vs base moved start address stops ht hc hn hcp hp hr hi
  have hib := (s.coprocBase_isolated p u w rn off).trans hi
  have hpc := s.coprocBase_pc p u w rn off
  have hcpsr := s.coprocBase_cpsr p u w rn off
  have hmem := s.coprocBase_mem p u w rn off
  have hlog := s.coprocBase_cpLog p u w rn off
  have hreg := s.coprocBase_getReg p u w rn off
  have hregs := s.coprocBase_keepsRegs p u w rn off
  have hnext := s.coprocBase_next_pc p u w rn off ht
  have hload (k : Nat) := s.coprocBase_loadStops p u w rn off (wordAddr start k)
  have hstore (k : Nat) := s.coprocBase_storeStops p u w rn off (wordAddr start k)
  have hlen : (v :: vs).length = vs.length + 1 := rfl
  have hsys := s.coprocBase_keepsSystem p u w rn off
  refine ⟨?ldc, ?ldcAborted, ?stc, ?stcAborted⟩
  case ldc =>
    intro hok
    obtain ⟨cs, hloop⟩ := State.coprocLoad_ok (v :: vs) _ [] start hib fun k hk => (hload k).trans (hok k (by omega))
    rw [State.coprocBase_wordsFrom] at hloop
    exact ⟨_, exec_ldc_ready hc hn hcp hp hr hloop, congrArg (· ++ _) hlog, fun hw => (hreg _).trans (if_pos ⟨hw, rfl⟩),
      hcpsr, hnext, hregs, fun a => congrArg (Memory.get · a) hmem, hsys⟩
  case ldcAborted =>
    intro bad hbad hok hstop
    obtain ⟨cs, hcs, hloop⟩ := State.coprocLoad_abort (v :: vs) _ [] start bad hib (by omega)
      (fun k hk => (hload k).trans (hok k hk)) ((hload bad).trans hstop)
    rw [State.coprocBase_wordsFrom] at hloop
    refine ⟨_, exec_ldc_ready hc hn hcp hp hr hloop, State.inDataAbort_takeDataAbort hpc hcpsr, congrArg (· ++ _) hlog,
      ?_, fun a => congrArg (Memory.get · a) hmem, fun q hq => ?_⟩
    · show ((s.coprocBase p u w rn off).bus ++ cs).length = _
      rw [List.length_append, hcs, State.coprocBase_bus]
      rfl
    · rw [if_pos rfl, State.takeDataAbort_getReg, if_neg hq]
      exact hreg q
  case stc =>
    intro hok hm hlt
    obtain ⟨t, hloop, ⟨kregs, kpc, kc, ksp, -, kpins, -⟩, kdbg, hword, hframe⟩ :=
      State.coprocStore_ok_spec (vs := v :: vs) hib (by rwa [hmem]) (by omega)
        fun k hk => (hstore k).trans (hok k (by omega))
    have kreg (q : PReg) : t.getReg q = (s.coprocBase p u w rn off).getReg q :=
      congrArg (fun r : Vector Word 30 => r.get q.index) kregs
    rw [State.coprocBase_pins] at hword
    rw [hmem] at hframe
    refine ⟨_, exec_stc_ready hc hn hcp hp hr hloop, fun k hk => hword k (by omega),
      fun a ha => hframe a fun k hk => ha k (by omega), fun hw => (kreg _).trans ((hreg _).trans (if_pos ⟨hw, rfl⟩)),
      kc.trans hcpsr, Eq.trans ?_ hnext, fun q hq => (kreg q).trans (hregs q hq), ?_⟩
    · show t.pc + t.instrBytes = _
      rw [State.instrBytes, State.instrBytes, kpc, kc]
    · obtain ⟨hsp, hdbg, hpins⟩ := hsys
      exact ⟨ksp.trans hsp, kdbg.trans hdbg, kpins.trans hpins⟩
  case stcAborted =>
    intro bad hbad hok hstop hm hlt
    obtain ⟨t, hloop, ⟨kregs, kpc, kc, -⟩, kbus, hword, hframe⟩ :=
      State.coprocStore_abort_spec (vs := v :: vs) hib (by rwa [hmem]) (by omega) (by omega)
        (fun k hk => (hstore k).trans (hok k hk)) ((hstore bad).trans hstop)
    rw [State.coprocBase_pins] at hword
    rw [hmem] at hframe
    rw [State.coprocBase_bus] at kbus
    refine ⟨_, exec_stc_ready hc hn hcp hp hr hloop, State.inDataAbort_takeDataAbort (kpc.trans hpc) (kc.trans hcpsr),
      hword, hframe, kbus, fun q hq => ?_⟩
    rw [if_pos rfl, State.takeDataAbort_getReg, if_neg hq, State.logEvent_getReg, State.getReg, kregs]
    exact hreg q

end Sys2Proof.Machine
end

section
/-! How an instruction ends: it waits, goes on at the next instruction, branches, or takes an exception; and what it can
change on the way in User mode (10 R32, R38, R45, 60 R440). -/

namespace Sys2Proof.Machine

-- Elaborated one after the other: side by side, the threads of one large text pass the memory of the check.
set_option Elab.async false

/-! ### An instruction under way -/

/-- In User mode no general register of another mode differs. -/
def State.keepsBanks (s t : State) : Prop :=
  s.cpsr.m = modeUsr → ∀ p : PReg, (∀ r : Reg, p ≠ physReg modeUsr r) → t.getReg p = s.getReg p

/-- `t` is `s` with its instruction under way: the instruction has not moved the PC nor written a status register. -/
structure State.underway (s t : State) : Prop where
  pc : t.pc = s.pc
  cpsr : t.cpsr = s.cpsr
  spsrs : t.spsrs = s.spsrs
  pipe : t.pipe = s.pipe
  banks : s.keepsBanks t

/-- What an instruction without an exception keeps in User mode outside debug state (10 R38, R39, 42 R212). -/
def State.confines (s t : State) : Prop :=
  s.cpsr.m = modeUsr → s.dbg.active = false →
    t.cpsr.m = modeUsr ∧ t.cpsr.i = s.cpsr.i ∧ t.cpsr.f = s.cpsr.f ∧ t.spsrs = s.spsrs ∧
      ∀ p : PReg, (∀ r : Reg, p ≠ physReg modeUsr r) → t.getReg p = s.getReg p

/-- The exceptions that an instruction takes itself (60 R445, R447, R449). -/
def Exc.ofInstr (e : Exc) : Prop := e = .undefined ∨ e = .swi ∨ e = .dataAbort

/-- The states in which an instruction ends. -/
inductive State.endsIn (s : State) : State → Prop
  | waits : s.endsIn s
  | goesOn {t : State} (hpc : t.pc = s.pc + s.instrBytes) (ht : t.cpsr.t = s.cpsr.t) (hpipe : t.pipe = s.pipe.tail)
    (hc : s.confines t) : s.endsIn t
  | branches {t : State} (hpc : t.pcAligned) (hpipe : t.pipe = []) (hc : s.confines t) : s.endsIn t
  | traps {r : State} (hr : s.underway r) (e : Exc) (he : e.ofInstr) (link : Word) : s.endsIn (r.enterException e link)

/-- The same of the state that an outcome goes on in. -/
def State.endsAs (s : State) (r : Result) : Prop := ∀ t : State, r = .next t → s.endsIn t

@[simp] theorem State.endsAs_next (s t : State) : s.endsAs (.next t) ↔ s.endsIn t :=
  ⟨fun h => h t rfl, fun h _ hu => Host.Outcome.next.inj hu ▸ h⟩

@[simp] theorem State.endsAs_fault (s : State) (f : Fault) : s.endsAs (.fault f) :=
  fun _ h => by cases h

@[simp] theorem State.endsAs_refused (s : State) (e : Refusal) : s.endsAs (.refused e) :=
  fun _ h => by cases h

/-- The PC, the status registers and the pipeline of two states agree, and their general registers. -/
def State.sameEnd (s t : State) : Prop :=
  t.pc = s.pc ∧ t.cpsr = s.cpsr ∧ t.spsrs = s.spsrs ∧ t.pipe = s.pipe ∧ t.regs = s.regs

theorem State.underway.refl (s : State) : s.underway s := ⟨rfl, rfl, rfl, rfl, fun _ _ _ => rfl⟩

theorem State.branch_pcAligned (s : State) (v : Word) : (s.branch v).pcAligned := alignPc_idem s.cpsr.t v

/-- A test or an operation writes no control bit of the CPSR (41 R180, R181). -/
theorem Psr.keepsControl_aluOut (op : AluOp) (p : Psr) (a : Word) (b : Shifted) : p.keepsControl (aluOut op p a b).2 := by
  cases op <;> exact ⟨rfl, rfl, rfl, rfl⟩

theorem Psr.keepsControl_testOut (op : TestOp) (p : Psr) (a : Word) (b : Shifted) : p.keepsControl (testOut op p a b) := by
  cases op <;> exact ⟨rfl, rfl, rfl, rfl⟩

theorem Psr.keepsControl_ite {p q : Psr} (h : p.keepsControl q) (b : Bool) : p.keepsControl (if b then q else p) := by
  cases b
  · exact ⟨rfl, rfl, rfl, rfl⟩
  · exact h

section

variable {s t : State} (h : s.underway t)

include h

/-! ### Steps of an instruction under way -/

theorem State.underway.update {u : State} (hu : t.sameEnd u) : s.underway u := by
  obtain ⟨hpc, hc, hsp, hpipe, hregs⟩ := hu
  refine ⟨hpc.trans h.pc, hc.trans h.cpsr, hsp.trans h.spsrs, hpipe.trans h.pipe, fun hm p hp => ?_⟩
  exact (congrArg (fun r : Vector Word 30 => r.get p.index) hregs).trans (h.banks hm p hp)

/-- In User mode the current bank is the User bank (10 R24). -/
theorem State.underway.setReg {r : Reg} {m : BitVec 5} (hm : s.cpsr.m = modeUsr → m = modeUsr) (v : Word) :
    s.underway (t.setReg (physReg m r) v) := by
  refine ⟨h.pc, h.cpsr, h.spsrs, h.pipe, fun hu p hp => ?_⟩
  rw [State.setReg_getReg_ne _ _ _ _ (hm hu ▸ hp r)]
  exact h.banks hu p hp

theorem State.underway.writeReg (r : Reg) (v : Word) : s.underway (t.writeReg r v) :=
  h.setReg (fun hm => (congrArg (·.m) h.cpsr).trans hm) v

theorem State.underway.writeUser (r : Reg) (v : Word) : s.underway (t.writeUser r v) := h.setReg (fun _ => rfl) v

theorem State.underway.writeBase (wb : Bool) (rn : Reg) (v : Word) : s.underway (t.writeBase wb rn v) := by
  cases wb
  · exact h
  · exact h.writeReg rn v

theorem State.underway.logCycle (c : BusCycle) : s.underway (t.logCycle c) := h.update ⟨rfl, rfl, rfl, rfl, rfl⟩

theorem State.underway.logEvent (e : CpEvent) : s.underway (t.logEvent e) := h.update ⟨rfl, rfl, rfl, rfl, rfl⟩

theorem State.underway.dataRead (z : Size) (a : Word) (p l : Bool) : s.underway (t.dataRead z a p l).2 := by
  refine h.update ⟨?_, ?_, ?_, ?_, ?_⟩ <;> simp

theorem State.underway.dataWrite (z : Size) (a v : Word) (p l : Bool) : s.underway (t.dataWrite z a v p l).2 := by
  refine h.update ⟨?_, ?_, ?_, ?_, ?_⟩ <;> simp

/-! ### Ends of an instruction -/

/-- The status register replaced, its control bits kept, and on to the next instruction. -/
theorem State.underway.advance_withCpsr {q : Psr} (hq : t.cpsr.keepsControl q) : s.endsIn (t.withCpsr q).advance := by
  obtain ⟨hi, hf, ht, hm⟩ := hq
  have hcpsr := h.cpsr
  refine .goesOn ?_ (by rw [← hcpsr]; exact ht) (congrArg List.tail h.pipe) fun hu _ => ?_
  · show t.pc + (t.withCpsr q).instrBytes = _
    rw [State.instrBytes, State.instrBytes, State.withCpsr_cpsr, ht, hcpsr, h.pc]
  · rw [hcpsr] at hi hf hm
    exact ⟨hm.trans hu, hi, hf, h.spsrs, h.banks hu⟩

theorem State.underway.advance : s.endsIn t.advance := h.advance_withCpsr (q := t.cpsr) ⟨rfl, rfl, rfl, rfl⟩

theorem State.underway.advance_update {u : State} (hu : t.advance.sameEnd u) : s.endsIn u := by
  obtain ⟨hpc, hc, hsp, hpipe, hregs⟩ := hu
  have hcpsr : u.cpsr = s.cpsr := hc.trans h.cpsr
  refine .goesOn ?_ (congrArg (·.t) hcpsr) (hpipe.trans (congrArg List.tail h.pipe)) fun hm _ =>
    ⟨(congrArg (·.m) hcpsr).trans hm, congrArg (·.i) hcpsr, congrArg (·.f) hcpsr, hsp.trans h.spsrs, fun p hp => ?_⟩
  · rw [hpc, State.advance_pc, State.instrBytes, State.instrBytes, h.pc, h.cpsr]
  · exact (congrArg (fun r : Vector Word 30 => r.get p.index) hregs).trans (h.banks hm p hp)

theorem State.underway.branch_setT (b : Bool) (v : Word) : s.endsIn ((t.withCpsr { t.cpsr with t := b }).branch v) := by
  refine .branches (State.branch_pcAligned _ v) rfl fun hm _ => ?_
  have hcpsr := h.cpsr
  exact ⟨(congrArg (·.m) hcpsr).trans hm, congrArg (·.i) hcpsr, congrArg (·.f) hcpsr, h.spsrs, h.banks hm⟩

theorem State.underway.branch (v : Word) : s.endsIn (t.branch v) := h.branch_setT t.cpsr.t v

theorem State.underway.finish (rd : Reg) (v : Word) : s.endsIn (t.finish rd v) := by
  unfold State.finish
  split
  · exact h.branch v
  · exact (h.writeReg rd v).advance

theorem State.underway.takeDataAbort : s.endsIn t.takeDataAbort := .traps h .dataAbort (.inr (.inr rfl)) _

theorem State.underway.takeUndefined : s.endsIn t.takeUndefined := .traps h .undefined (.inl rfl) _

theorem State.underway.takeSwi : s.endsIn t.takeSwi := .traps h .swi (.inr (.inl rfl)) _

/-- In User mode there is no SPSR: what needs one does not end (10 R36, U6). -/
theorem State.underway.not_user_of_spsr {p : Psr} (hp : t.spsr = some p) : s.cpsr.m ≠ modeUsr := by
  intro hm
  rw [t.spsr_user ((congrArg (·.m) h.cpsr).trans hm)] at hp
  exact absurd hp nofun

theorem State.underway.exceptionReturn (v : Word) : s.endsAs (t.exceptionReturn v) := by
  unfold State.exceptionReturn
  split
  · exact s.endsAs_fault _
  · next p hp =>
    exact (s.endsAs_next _).mpr
      (.branches (State.branch_pcAligned _ v) rfl fun hm => absurd hm (h.not_user_of_spsr hp))

/-! ### Operations without a data access -/

theorem State.underway.conditional (c : Cond) (k : State → Result) (hk : s.endsAs (k t)) :
    s.endsAs (t.conditional c k) := by
  unfold State.conditional
  split
  · exact hk
  · exact (s.endsAs_next _).mpr h.advance

theorem State.underway.dataOp (op : AluOp) (c : Cond) (sf : Bool) (rn rd : Reg) (o : Op2) :
    s.endsAs (t.dataOp op c sf rn rd o) := by
  refine h.conditional c _ ?_
  dsimp only
  split
  · exact s.endsAs_refused _
  · split
    · split
      · exact h.exceptionReturn _
      · exact (s.endsAs_next _).mpr (h.branch _)
    · exact (s.endsAs_next _).mpr
        ((h.writeReg rd _).advance_withCpsr (Psr.keepsControl_ite (Psr.keepsControl_aluOut op t.cpsr _ _) sf))

theorem State.underway.testP : s.endsAs t.testP := by
  unfold State.testP
  split
  · exact (s.endsAs_next _).mpr h.advance
  · next hm =>
    have hu : s.cpsr.m ≠ modeUsr := fun hs => hm ((congrArg (·.m) h.cpsr).trans hs)
    split
    · exact s.endsAs_fault _
    · next p _ =>
      split
      · next ht =>
        have hts : p.t = s.cpsr.t := ht.trans (congrArg (·.t) h.cpsr)
        refine (s.endsAs_next _).mpr (.goesOn ?_ hts (congrArg List.tail h.pipe) fun hs => absurd hs hu)
        show t.pc + (if p.t then 2#32 else 4#32) = _
        rw [hts, h.pc]
        rfl
      · exact s.endsAs_fault _

theorem State.underway.testOp (op : TestOp) (c : Cond) (rn rd : Reg) (o : Op2) : s.endsAs (t.testOp op c rn rd o) := by
  refine h.conditional c _ ?_
  split
  · exact s.endsAs_refused _
  · split
    · exact h.testP
    · exact (s.endsAs_next _).mpr (h.advance_withCpsr (Psr.keepsControl_testOut op t.cpsr _ _))

theorem State.underway.writeSpsr (f : Psr → Psr) : s.endsAs (t.writeSpsr f) := by
  unfold State.writeSpsr
  split
  · exact s.endsAs_fault _
  · next p hp =>
    refine (s.endsAs_next _).mpr (.goesOn ?_ (congrArg (·.t) h.cpsr) (congrArg List.tail h.pipe) fun hs =>
      absurd hs (h.not_user_of_spsr hp))
    show t.pc + t.instrBytes = _
    rw [State.instrBytes, State.instrBytes, h.pc, h.cpsr]

theorem State.underway.writeFlags (spsr : Bool) (w : Word) : s.endsAs (t.writeFlags spsr w) := by
  unfold State.writeFlags
  split
  · exact h.writeSpsr _
  · exact (s.endsAs_next _).mpr (h.advance_withCpsr ⟨rfl, rfl, rfl, rfl⟩)

theorem State.underway.readPsr (spsr : Bool) (rd : Reg) : s.endsAs (t.readPsr spsr rd) := by
  unfold State.readPsr
  split
  · exact s.endsAs_fault _
  · exact (s.endsAs_next _).mpr (h.writeReg rd _).advance

theorem State.underway.mulEnd (sf : Bool) (rd : Reg) (clash : Bool) (r : Word) : s.endsAs (t.mulEnd sf rd clash r) := by
  refine (s.endsAs_next _).mpr ((h.writeReg rd _).advance_withCpsr (Psr.keepsControl_ite ?_ sf))
  cases clash <;> exact ⟨rfl, rfl, rfl, rfl⟩

theorem State.underway.multiply (acc sf : Bool) (rd rn rs rm : Reg) : s.endsAs (t.multiply acc sf rd rn rs rm) := by
  unfold State.multiply
  split
  · exact s.endsAs_refused _
  · exact h.mulEnd _ _ _ _

theorem State.underway.multiplyLong (op : LongOp) (sf : Bool) (hi lo rs rm : Reg) :
    s.endsAs (t.multiplyLong op sf hi lo rs rm) := by
  unfold State.multiplyLong
  split
  · exact s.endsAs_refused _
  · unfold State.mulLongEnd
    refine (s.endsAs_next _).mpr (((h.writeReg lo _).writeReg hi _).advance_withCpsr (Psr.keepsControl_ite ?_ sf))
    generalize (decide (hi = lo) || decide (hi = rm) || decide (lo = rm)) = clash
    cases clash <;> exact ⟨rfl, rfl, rfl, rfl⟩

theorem State.underway.thumbExchange (r : Reg) : s.endsAs (t.thumbExchange r) := by
  unfold State.thumbExchange
  split
  · exact s.endsAs_fault _
  · exact (s.endsAs_next _).mpr (h.branch_setT _ _)

theorem State.underway.thumbBranchIf (c : Cond) (off : BitVec 8) : s.endsAs (t.thumbBranchIf c off) := by
  unfold State.thumbBranchIf
  split
  · exact (s.endsAs_next _).mpr (h.branch _)
  · exact (s.endsAs_next _).mpr h.advance

theorem State.underway.receive (rd : Reg) (v : Word) : s.endsIn (t.receive rd v) := by
  unfold State.receive
  split
  · exact h.advance_withCpsr ⟨rfl, rfl, rfl, rfl⟩
  · exact (h.writeReg rd v).advance

/-! ### Single data accesses -/

theorem State.underway.loadInto (k : LoadKind) (p : Bool) (rd : Reg) (a : Word) : s.endsAs (t.loadInto k p rd a) := by
  have hr := h.dataRead k.size a p false
  unfold State.loadInto
  split
  · next e => rw [e] at hr; exact (s.endsAs_next _).mpr hr.takeDataAbort
  · next e => rw [e] at hr; exact (s.endsAs_next _).mpr (hr.finish _ _)

theorem State.underway.storeFrom (z : Size) (p : Bool) (a v : Word) : s.endsAs (t.storeFrom z p a v) := by
  have hw := h.dataWrite z a v p false
  unfold State.storeFrom
  split
  · exact s.endsAs_fault _
  · split
    · next e => rw [e] at hw; exact (s.endsAs_next _).mpr hw.takeDataAbort
    · next e => rw [e] at hw; exact (s.endsAs_next _).mpr hw.advance

theorem State.underway.loadSingle (k : LoadKind) (unpriv p u w : Bool) (rn rd : Reg) (o : Offset) :
    s.endsAs (t.loadSingle k unpriv p u w rn rd o) := by
  unfold State.loadSingle
  split
  · exact s.endsAs_refused _
  · split
    · exact s.endsAs_refused _
    · exact (h.writeBase _ _ _).loadInto _ _ _ _

theorem State.underway.storeSingle (z : Size) (unpriv p u w : Bool) (rn rd : Reg) (o : Offset) :
    s.endsAs (t.storeSingle z unpriv p u w rn rd o) := by
  unfold State.storeSingle
  split
  · exact s.endsAs_refused _
  · split
    · exact s.endsAs_refused _
    · exact (h.writeBase _ _ _).storeFrom _ _ _ _

theorem State.underway.loadHalf (k : LoadKind) (p u w : Bool) (rn rd : Reg) (o : HalfOffset) :
    s.endsAs (t.loadHalf k p u w rn rd o) := by
  unfold State.loadHalf
  split
  · exact s.endsAs_refused _
  · exact (h.writeBase _ _ _).loadInto _ _ _ _

theorem State.underway.storeHalf (p u w : Bool) (rn rd : Reg) (o : HalfOffset) : s.endsAs (t.storeHalf p u w rn rd o) := by
  unfold State.storeHalf
  split
  · exact s.endsAs_refused _
  · exact (h.writeBase _ _ _).storeFrom _ _ _ _

theorem State.underway.swap (k : LoadKind) (rn rd rm : Reg) : s.endsAs (t.swap k rn rd rm) := by
  have hr := h.dataRead k.size (t.operand rn) t.privileged true
  unfold State.swap
  split
  · exact s.endsAs_refused _
  · dsimp only
    split
    · next e =>
      rw [e] at hr
      exact (s.endsAs_next _).mpr (hr.logCycle _).takeDataAbort
    · next e =>
      rw [e] at hr
      have hw := hr.dataWrite k.size (t.operand rn) (t.operand rm) t.privileged true
      split
      · next e' => rw [e'] at hw; exact (s.endsAs_next _).mpr hw.takeDataAbort
      · next e' => rw [e'] at hw; exact (s.endsAs_next _).mpr (hw.writeReg _ _).advance

/-! ### Several data accesses -/

theorem State.underway.of_storeKeeps {u : State} (hu : t.storeKeeps u) : s.underway u := by
  obtain ⟨hregs, hpc, hc, hsp, hpipe, -⟩ := hu
  exact h.update ⟨hpc, hc, hsp, hpipe, hregs⟩

omit h in
theorem State.underway.load {q : LoadProgress} (h : s.underway q.state) (ub : Bool) (a : Word) (r : Reg) :
    s.underway (q.load ub a r).state := by
  have hr := h.dataRead .word a q.state.privileged false
  unfold LoadProgress.load
  split
  · next e => rw [e] at hr; exact hr
  · next e =>
    rw [e] at hr
    split
    · exact hr
    · split
      · exact hr
      · cases ub
        · exact hr.writeReg _ _
        · exact hr.writeUser _ _

omit h in
theorem State.underway.loadAll {q : LoadProgress} (h : s.underway q.state) (ub : Bool) (a : Word) (rs : List Reg) :
    s.underway (q.loadAll ub a rs).state := by
  induction rs generalizing q a with
  | nil => exact h
  | cons r rest ih => exact ih (h.load ub a r) _

theorem State.underway.loadMultiple (p u sf w : Bool) (rn : Reg) (list : BitVec 16) :
    s.endsAs (t.loadMultiple p u sf w rn list) := by
  have hq (f start : Word) (ub : Bool) :
      s.underway ((LoadProgress.mk (t.writeBase w rn f) false 0#32).loadAll ub start (regList list)).state :=
    State.underway.loadAll (h.writeBase w rn f) ub start (regList list)
  unfold State.loadMultiple
  dsimp only
  split
  · exact s.endsAs_refused _
  · split
    · exact s.endsAs_fault _
    · split
      · exact s.endsAs_fault _
      · split
        · exact (s.endsAs_next _).mpr ((hq _ _ _).writeReg _ _).takeDataAbort
        · split
          · split
            · exact (hq _ _ _).exceptionReturn _
            · exact (s.endsAs_next _).mpr ((hq _ _ _).branch _)
          · exact (s.endsAs_next _).mpr ((hq _ _ _).advance_update ⟨rfl, rfl, rfl, rfl, rfl⟩)

/-- A loop that a data abort may end. -/
theorem State.underway.next_ite (b : Bool) : s.endsAs (.next (if b then t.takeDataAbort else t.advance)) := by
  cases b
  · exact (s.endsAs_next _).mpr h.advance
  · exact (s.endsAs_next _).mpr h.takeDataAbort

theorem State.underway.storeMultiple (p u sf w : Bool) (rn : Reg) (list : BitVec 16) :
    s.endsAs (t.storeMultiple p u sf w rn list) := by
  unfold State.storeMultiple
  split
  · exact s.endsAs_refused _
  · split
    · exact s.endsAs_fault _
    · exact ((h.of_storeKeeps (State.storeAll_keeps _ _ _ _)).writeBase _ _ _).next_ite _

/-! ### Coprocessor instructions -/

theorem State.underway.offer (hs : s = t) (cp : BitVec 4) (k : Word → List Word → Result)
    (hk : ∀ (v : Word) (vs : List Word), s.endsAs (k v vs)) : s.endsAs (t.offer cp k) := by
  unfold State.offer
  split
  · exact (s.endsAs_next _).mpr h.takeUndefined
  · split
    · exact (s.endsAs_next _).mpr h.takeUndefined
    · exact (s.endsAs_next _).mpr (hs ▸ .waits)
    · exact hk _ _

end

section

variable (s : State)

theorem State.stc_endsAs (c : Cond) (p u n w : Bool) (rn : Reg) (crd cp : BitVec 4) (off : BitVec 8) :
    s.endsAs (execStc c p u n w rn crd cp off s) := by
  have h := State.underway.refl s
  refine h.conditional c _ ?_
  split
  · exact s.endsAs_refused _
  · refine h.offer rfl cp _ fun v vs => ?_
    exact (((h.writeBase w rn _).of_storeKeeps (State.coprocStore_keeps (v :: vs) _ _)).logEvent _).next_ite _

theorem State.ldc_endsAs (c : Cond) (p u n w : Bool) (rn : Reg) (crd cp : BitVec 4) (off : BitVec 8) :
    s.endsAs (execLdc c p u n w rn crd cp off s) := by
  have h := State.underway.refl s
  refine h.conditional c _ ?_
  split
  · exact s.endsAs_refused _
  · refine h.offer rfl cp _ fun v vs => ?_
    obtain ⟨⟨hpc, hc, hsp, -, hpipe, -⟩, hregs⟩ := (s.writeBase w rn (s.coprocAddress p u rn off).2).coprocLoad_keeps
      (v :: vs) [] (s.coprocAddress p u rn off).1
    exact (((h.writeBase w rn _).update ⟨hpc, hc, hsp, hpipe, hregs⟩).logEvent _).next_ite _

theorem State.mcr_endsAs (c : Cond) (opc : BitVec 3) (crn : BitVec 4) (rd : Reg) (cp : BitVec 4) (info : BitVec 3)
    (crm : BitVec 4) : s.endsAs (execMcr c opc crn rd cp info crm s) := by
  have h := State.underway.refl s
  refine h.conditional c _ ?_
  split
  · exact (s.endsAs_next _).mpr (h.advance_update ⟨rfl, rfl, rfl, rfl, rfl⟩)
  · exact h.offer rfl cp _ fun _ _ => (s.endsAs_next _).mpr (h.advance_update ⟨rfl, rfl, rfl, rfl, rfl⟩)

theorem State.mrc_endsAs (c : Cond) (opc : BitVec 3) (crn : BitVec 4) (rd : Reg) (cp : BitVec 4) (info : BitVec 3)
    (crm : BitVec 4) : s.endsAs (execMrc c opc crn rd cp info crm s) := by
  have h := State.underway.refl s
  refine h.conditional c _ ?_
  split
  · exact (s.endsAs_next _).mpr (h.receive _ _)
  · split
    · exact (s.endsAs_next _).mpr ((h.update ⟨rfl, rfl, rfl, rfl, rfl⟩ : s.underway
        { s with dbg := { s.dbg with commsR := false } }).receive _ _)
    · exact h.offer rfl cp _ fun v _ => (s.endsAs_next _).mpr ((h.logEvent _).receive _ _)

/-- An MSR to the CPSR: in User mode, outside debug state, only the flags (42 R212, R214). -/
theorem State.writeCpsr_endsAs (w : Word) : s.endsAs (s.writeCpsr w) := by
  unfold State.writeCpsr
  split
  · next hp =>
    split
    · next ht =>
      refine (s.endsAs_next _).mpr (.goesOn ?_ ht rfl fun hm hd => ?_)
      · exact congrArg (fun b : Bool => s.pc + if b then 2#32 else 4#32) ht
      · rw [State.privileged, hm, hd] at hp
        exact absurd hp (by decide)
    · exact s.endsAs_fault _
  · exact (s.endsAs_next _).mpr ((State.underway.refl s).advance_withCpsr ⟨rfl, rfl, rfl, rfl⟩)

end

/-! ### Every instruction -/

/-- Every instruction ends in one of the four ways. The cases are grouped by the operation that the instructions share. -/
theorem exec_endsAs (i : Instr) (s : State) : s.endsAs (exec i s) := by
  have h := State.underway.refl s
  unfold exec
  cases i with
  | andImm | andShift | andReg | eorImm | eorShift | eorReg | subImm | subShift | subReg | rsbImm | rsbShift | rsbReg
  | addImm | addShift | addReg | adcImm | adcShift | adcReg | sbcImm | sbcShift | sbcReg | rscImm | rscShift | rscReg
  | orrImm | orrShift | orrReg | movImm | movShift | movReg | bicImm | bicShift | bicReg | mvnImm | mvnShift | mvnReg =>
    exact h.dataOp _ _ _ _ _ _
  | tstImm | tstShift | tstReg | teqImm | teqShift | teqReg | cmpImm | cmpShift | cmpReg | cmnImm | cmnShift | cmnReg =>
    exact h.testOp _ _ _ _ _
  | strImmPre | strImmPost | strtImm | strRegPre | strRegPost | strtReg | strbImmPre | strbImmPost | strbtImm | strbRegPre
  | strbRegPost | strbtReg =>
    exact h.conditional _ _ (h.storeSingle _ _ _ _ _ _ _ _)
  | ldrImmPre | ldrImmPost | ldrtImm | ldrRegPre | ldrRegPost | ldrtReg | ldrbImmPre | ldrbImmPost | ldrbtImm | ldrbRegPre
  | ldrbRegPost | ldrbtReg =>
    exact h.conditional _ _ (h.loadSingle _ _ _ _ _ _ _ _)
  | strhReg | strhImm => exact h.conditional _ _ (h.storeHalf _ _ _ _ _ _)
  | ldrhReg | ldrhImm | ldrsbReg | ldrsbImm | ldrshReg | ldrshImm => exact h.conditional _ _ (h.loadHalf _ _ _ _ _ _ _)
  | stm => exact h.conditional _ _ (h.storeMultiple _ _ _ _ _ _)
  | ldm => exact h.conditional _ _ (h.loadMultiple _ _ _ _ _ _)
  | swp | swpb => exact h.conditional _ _ (h.swap _ _ _ _)
  | mul | mla => exact h.conditional _ _ (h.multiply _ _ _ _ _ _)
  | umull | umlal | smull | smlal => exact h.conditional _ _ (h.multiplyLong _ _ _ _ _ _)
  | mrs =>
    refine h.conditional _ _ ?_
    split
    · exact s.endsAs_refused _
    · exact h.readPsr _ _
  | msrReg =>
    refine h.conditional _ _ ?_
    split
    · exact s.endsAs_refused _
    · split
      · exact h.writeSpsr _
      · exact s.writeCpsr_endsAs _
  | msrFlagsReg =>
    refine h.conditional _ _ ?_
    split
    · exact s.endsAs_refused _
    · exact h.writeFlags _ _
  | msrFlagsImm => exact h.conditional _ _ (h.writeFlags _ _)
  | bx =>
    refine h.conditional _ _ ?_
    split
    · exact s.endsAs_refused _
    · exact (s.endsAs_next _).mpr (h.branch_setT _ _)
  | b => exact h.conditional _ _ ((s.endsAs_next _).mpr (h.branch _))
  | bl => exact h.conditional _ _ ((s.endsAs_next _).mpr ((h.writeReg _ _).branch _))
  | swi => exact h.conditional _ _ ((s.endsAs_next _).mpr h.takeSwi)
  | undef => exact h.conditional _ _ ((s.endsAs_next _).mpr h.takeUndefined)
  | cdp =>
    exact h.conditional _ _ (h.offer rfl _ _ fun _ _ =>
      (s.endsAs_next _).mpr (h.logEvent _).advance)
  | stc => exact s.stc_endsAs _ _ _ _ _ _ _ _ _
  | ldc => exact s.ldc_endsAs _ _ _ _ _ _ _ _ _
  | mcr => exact s.mcr_endsAs _ _ _ _ _ _ _
  | mrc => exact s.mrc_endsAs _ _ _ _ _ _ _
  | tLslImm | tLsrImm | tAsrImm | tAddReg | tSubReg | tAddImm3 | tSubImm3 | tMovImm | tAddImm8 | tSubImm8 | tAnd | tEor
  | tLslReg | tLsrReg | tAsrReg | tAdc | tSbc | tRorReg | tNeg | tOrr | tBic | tMvn =>
    exact (s.endsAs_next _).mpr ((h.writeReg _ _).advance_withCpsr (Psr.keepsControl_aluOut _ s.cpsr _ _))
  | tCmpImm | tTst | tCmp | tCmn | tCmpLoHi | tCmpHiLo | tCmpHiHi =>
    exact (s.endsAs_next _).mpr (h.advance_withCpsr (Psr.keepsControl_testOut _ s.cpsr _ _))
  | tMul => exact h.mulEnd _ _ _ _
  | tB => exact (s.endsAs_next _).mpr (h.branch _)
  | tBlHigh => exact (s.endsAs_next _).mpr (h.writeReg _ _).advance
  | tBlLow => exact (s.endsAs_next _).mpr ((h.writeReg _ _).branch _)
  | tSwi => exact (s.endsAs_next _).mpr h.takeSwi
  | tUndefCond | tUndefB1 | tUndefB2 | tUndefB6 | tUndefB8 | tUndefBe | tUndefE8 =>
    exact (s.endsAs_next _).mpr h.takeUndefined
  | tAddLoHi | tAddHiLo | tAddHiHi | tMovLoHi | tMovHiLo | tMovHiHi | tAddPc | tAddSp | tAddSpPos | tAddSpNeg =>
    exact (s.endsAs_next _).mpr (h.finish _ _)
  | tAddLoLo | tCmpLoLo | tMovLoLo | tBxH1 => exact s.endsAs_refused _
  | tBxLo | tBxHi => exact h.thumbExchange _
  | tBeq | tBne | tBcs | tBcc | tBmi | tBpl | tBvs | tBvc | tBhi | tBls | tBge | tBlt | tBgt | tBle =>
    exact h.thumbBranchIf _ _
  | tLdrPc | tLdrReg | tLdrbReg | tLdrhReg | tLdsbReg | tLdshReg | tLdrImm | tLdrbImm | tLdrhImm | tLdrSp =>
    exact h.loadInto _ _ _ _
  | tStrReg | tStrbReg | tStrhReg | tStrImm | tStrbImm | tStrhImm | tStrSp => exact h.storeFrom _ _ _ _
  | tPush | tPushLr | tStmia => exact h.storeMultiple _ _ _ _ _ _
  | tPop | tPopPc | tLdmia => exact h.loadMultiple _ _ _ _ _ _

/-- Settles O19, by the way the instruction ends. -/
theorem userModeConfined : Obligations.UserModeConfined := by
  intro i s t hm hd ht
  cases exec_endsAs i s t ht with
  | waits => exact .inl ⟨hm, rfl, rfl, rfl, fun _ _ => rfl⟩
  | goesOn _ _ _ hc => exact .inl (hc hm hd)
  | branches _ _ hc => exact .inl (hc hm hd)
  | @traps r hr e he link => exact .inr ⟨r, e, link, he, rfl, hr.cpsr, hr.spsrs, hr.banks hm⟩

end Sys2Proof.Machine
end

section
/-! O11: every step keeps the one form of memory, the alignment of the PC and the bound of the prefetch queue. -/

namespace Sys2Proof.Machine

-- Elaborated one after the other: side by side, the threads of one large text pass the memory of the check.
set_option Elab.async false

/-! ### Parts of a state that meets the invariant -/

theorem alignPc_vector (e : Exc) : alignPc false e.vector = e.vector := by
  cases e <;> decide

theorem alignPc_add_instrBytes (s : State) {v : Word} (h : alignPc s.cpsr.t v = v) :
    alignPc s.cpsr.t (v + s.instrBytes) = v + s.instrBytes :=
  State.pcAligned.next (s := { s with pc := v }) h

section

variable {s t : State}

theorem State.Inv.wf (h : s.Inv) : Memory.wf s.mem = true := by
  obtain ⟨hm, -⟩ := h
  exact hm

theorem State.Inv.pipe_le (h : s.Inv) : s.pipe.length ≤ 3 := by
  obtain ⟨-, -, hp⟩ := h
  exact hp

/-- With the same memory and an aligned PC an empty pipeline meets the invariant. -/
theorem State.Inv.of_flushed (hm : Memory.wf s.mem = true) (hpc : s.pcAligned) (hp : s.pipe = []) : s.Inv :=
  ⟨hm, hpc, by rw [hp]; exact Nat.zero_le 3⟩

theorem State.Inv.of_eq (h : s.Inv) (hm : t.mem = s.mem) (hpc : t.pc = s.pc) (ht : t.cpsr.t = s.cpsr.t)
    (hp : t.pipe.length ≤ 3) : t.Inv := by
  obtain ⟨hwf, ha, -⟩ := h
  exact ⟨hm ▸ hwf, by rwa [State.pcAligned, hpc, ht], hp⟩

/-- The debug state plays no part in the invariant. -/
theorem State.Inv.with_dbg (h : s.Inv) (g : Debug) : { s with dbg := g }.Inv := h

theorem State.enterException_inv (hm : Memory.wf s.mem = true) (e : Exc) (link : Word) : (s.enterException e link).Inv :=
  .of_flushed hm (alignPc_vector e) rfl

theorem State.advance_inv (h : s.Inv) : s.advance.Inv := by
  obtain ⟨hwf, ha, hp⟩ := h
  refine ⟨hwf, ha.next, ?_⟩
  rw [State.advance_pipe, List.length_tail]
  omega

/-! ### One instruction -/

/-- No part of an instruction leaves the one form of memory. -/
theorem State.comesTo.wf (h : s.comesTo t) (hm : Memory.wf s.mem = true) : Memory.wf t.mem = true := by
  induction h with
  | refl => exact hm
  | update _ hu ih =>
    have hmem := congrArg State.mem hu
    exact (show _ = _ from hmem) ▸ ih
  | read _ z a p l ih => rwa [State.dataRead_mem]
  | @write u _ z a v p l ih => exact u.dataWrite_wf z a v p l ih
  | comms _ _ v w r ih => exact ih

/-- Every way an instruction ends leaves the PC aligned and the queue bounded. -/
theorem State.endsIn.inv (h : s.endsIn t) (hs : s.Inv) (hm : Memory.wf t.mem = true) : t.Inv := by
  obtain ⟨-, ha, hp⟩ := hs
  cases h with
  | waits => exact ⟨hm, ha, hp⟩
  | goesOn hpc ht hpipe _ =>
    refine ⟨hm, ?_, ?_⟩
    · rw [State.pcAligned, hpc, ht]
      exact ha.next
    · rw [hpipe, List.length_tail]
      omega
  | branches hpc hpipe _ => exact .of_flushed hm hpc hpipe
  | @traps r _ e _ link => exact State.enterException_inv (s := r) hm e link

theorem exec_inv {i : Instr} (h : s.Inv) (he : exec i s = .next t) : t.Inv :=
  (exec_endsAs i s t he).inv h ((exec_comesTo i s t he).wf h.wf)

/-! ### The stages around an instruction -/

theorem State.fillPipe_inv (h : s.Inv) {n : Nat} (hn : n ≤ 3) : (s.fillPipe n).Inv := by
  refine h.of_eq (s.fillPipe_mem n) (s.fillPipe_pc n) (by rw [State.fillPipe_cpsr]) ?_
  rw [State.fillPipe_length]
  exact max_le h.pipe_le hn

theorem State.iceCycles_inv (h : s.Inv) (cs : List BusCycle) : (s.iceCycles cs).2.Inv := by
  obtain ⟨x, y, z, hs⟩ := State.iceCycles_state cs s
  rw [hs]
  exact h

theorem State.abortFetch_inv (h : s.Inv) (before : State) : (s.abortFetch before).Inv := by
  obtain ⟨x, y, z, cs, hs⟩ := s.abortFetch_state before
  rw [hs]
  exact h

theorem State.entryFetch_mem (s : State) : s.entryFetch.mem = s.mem := by
  obtain ⟨x, y, z, e, q, cs, c, hs, -⟩ := s.entryFetch_state
  rw [hs]

/-- The entry of an interrupt, with its refill. -/
theorem State.pendingInterrupt_inv {nFIQ nIRQ : Bool} (hm : Memory.wf s.mem = true)
    (h : s.pendingInterrupt nFIQ nIRQ = some t) : t.Inv := by
  rcases s.pendingInterrupt_cases nFIQ nIRQ with hn | ⟨hf, -⟩ | ⟨hi, -⟩
  · exact absurd (hn.symm.trans h) nofun
  · exact Option.some.inj (hf.symm.trans h) ▸ State.enterException_inv hm _ _
  · exact Option.some.inj (hi.symm.trans h) ▸ State.enterException_inv hm _ _

theorem State.enterDebugRequest_inv (h : s.Inv) (watch : Bool) : (s.enterDebugRequest watch).Inv := by
  obtain ⟨hm, ha, -⟩ := h
  exact .of_flushed hm (alignPc_add_instrBytes s ha.next) rfl

theorem State.enterDebugBreak_inv (h : s.Inv) (watch : Bool) : (s.enterDebugBreak watch).Inv := by
  obtain ⟨hm, ha, -⟩ := h
  exact .of_flushed hm (alignPc_add_instrBytes s (alignPc_add_instrBytes s ha.next)) rfl

theorem State.endInstruction_inv (h : s.Inv) (before : State) : (s.endInstruction before).Inv := by
  have hu : ((s.iceCycles (s.bus.filter fun c => !c.fetch)).2.abortFetch before |>.fillPipe 2).Inv :=
    State.fillPipe_inv (State.abortFetch_inv (State.iceCycles_inv h _) before) (by decide)
  unfold State.endInstruction
  dsimp only
  split
  · split
    · exact State.enterDebugRequest_inv hu true
    · split
      · next t ht =>
        have ht' := State.pendingInterrupt_inv (by rw [State.entryFetch_mem]; exact hu.wf) ht
        exact State.enterDebugRequest_inv (State.fillPipe_inv ht' (by decide)) true
      · exact State.enterDebugBreak_inv hu true
  · exact hu

theorem State.executeNext_inv (h : s.Inv) (he : s.executeNext = .next t) : t.Inv := by
  rcases s.executeNext_next t he with ⟨i, u, -, hu, rfl⟩ | rfl
  · exact State.endInstruction_inv (exec_inv h hu) s
  · exact State.advance_inv h

theorem State.instructionStep_inv (h : s.Inv) (he : s.instructionStep = .next t) : t.Inv := by
  unfold State.instructionStep at he
  split at he
  · cases he
    exact State.fillPipe_inv (State.enterException_inv h.wf _ _) (by decide)
  · split at he
    · cases he
      exact State.enterDebugBreak_inv h false
    · exact State.executeNext_inv h he

/-! ### Debug state -/

theorem State.armScan_inv (h : s.Inv) (w : Word) (data : List Word) : (s.armScan w data).Inv :=
  h.of_eq rfl rfl rfl (by show 2 ≤ 3; decide)

theorem State.settleAccess_inv (h : s.Inv) : s.settleAccess.Inv := by
  obtain ⟨hm, ha, -⟩ := h
  obtain ⟨x, y, z, hs⟩ := State.iceCycles_state s.bus s
  have hmem : s.settleAccess.mem = s.mem := by
    unfold State.settleAccess
    rw [hs]
    dsimp only
    split <;> rfl
  have hcpsr : s.settleAccess.cpsr = s.cpsr := by
    unfold State.settleAccess
    rw [hs]
    dsimp only
    split <;> rfl
  refine .of_flushed (hmem ▸ hm) ?_ rfl
  rw [State.pcAligned, hcpsr]
  unfold State.settleAccess
  dsimp only
  split
  · exact alignPc_idem _ _
  · split
    · exact ha
    · exact alignPc_add_instrBytes s ha.next

theorem State.scanStep_inv (h : s.Inv) {bit33 : Bool} {w : Word} {data : List Word}
    (he : s.scanStep bit33 w data = .next t) : t.Inv := by
  unfold State.scanStep at he
  split at he
  · cases he
    exact h.with_dbg _
  · split at he
    · cases he
      exact h.with_dbg _
    · split at he
      · cases he
      · split at he
        · cases he
        · split at he
          · next u hu =>
            cases he
            exact (exec_inv (State.armScan_inv h w data) hu).of_eq rfl rfl rfl (Nat.zero_le 3)
          · cases he
          · cases he

theorem State.accessStep_inv (h : s.Inv) {w : Word} (he : s.accessStep w = .next t) : t.Inv := by
  unfold State.accessStep at he
  split at he
  · cases he
  · split at he
    · split at he
      · next u hu =>
        cases he
        exact State.settleAccess_inv (exec_inv ((State.armScan_inv h w []).with_dbg _) hu)
      · cases he
      · cases he
    · cases he

theorem State.leaveStep_inv (h : s.Inv) {w : Word} (he : s.leaveStep w = .next t) : t.Inv := by
  unfold State.leaveStep at he
  split at he
  · cases he
  · split at he
    · split at he
      · next u hu =>
        cases he
        exact (exec_inv (State.armScan_inv h w []) hu).of_eq rfl rfl rfl (Nat.zero_le 3)
      · cases he
      · cases he
    · cases he

theorem State.debugStep_inv (h : s.Inv) (he : s.debugStep = .next t) : t.Inv := by
  unfold State.debugStep at he
  split at he
  case h_1 => exact State.scanStep_inv h he
  case h_2 =>
    split at he
    · split at he
      · exact State.accessStep_inv h he
      · cases he; exact h
    · cases he; exact h
  case h_3 =>
    split at he
    · split at he
      · exact State.leaveStep_inv h he
      · cases he
    · cases he; exact h
  all_goals cases he; exact h

/-! ### Reset and the whole step -/

theorem State.abandonWrites_wf (cs : List BusCycle) : ∀ s : State, Memory.wf s.mem = true →
    Memory.wf (s.abandonWrites cs).mem = true := by
  induction cs with
  | nil => exact fun s h => h
  | cons c rest ih => exact fun s h => ih _ (State.wf_stored _ _ _ _ h)

theorem State.abandon_wf (s : State) (h : Memory.wf s.mem = true) : Memory.wf s.abandon.mem = true := by
  unfold State.abandon
  split
  · exact State.abandonWrites_wf _ s h
  · exact h

/-- The word after the word that contains an address is aligned for both states. -/
theorem alignPc_next_word (b : Bool) (v : Word) :
    alignPc b ((v &&& 0xFFFFFFFC#32) + 4#32) = (v &&& 0xFFFFFFFC#32) + 4#32 := by
  have h := alignWord_toNat v
  rw [alignPc_eq_self_iff, BitVec.toNat_add, h]
  cases b
  · simp
  · simp
    omega

theorem State.holdReset_inv (h : s.Inv) : s.holdReset.Inv := by
  have hu : Memory.wf (if s.resetCycles = 0 then s.abandon else s).mem = true := by
    split
    · exact s.abandon_wf h.wf
    · exact h.wf
  unfold State.holdReset
  dsimp only
  refine .of_flushed ?_ ?_ rfl
  · obtain ⟨x, y, z, hs⟩ := State.iceCycle_state (s := State.logCycle _ _) _
    rw [hs]
    exact hu
  · exact alignPc_next_word _ _

theorem State.resetEntry_inv (hm : Memory.wf s.mem = true) : s.resetEntry.Inv := by
  obtain ⟨hpc, -, -, -, ht, hp, hmem, -⟩ := s.resetEntry_spec
  refine .of_flushed (by rwa [hmem]) ?_ hp
  rw [State.pcAligned, hpc, ht]
  decide

theorem State.runStep_inv (h : s.Inv) (he : s.runStep = .next t) : t.Inv := by
  unfold State.runStep at he
  split at he
  · cases he; exact h
  · split at he
    · exact State.debugStep_inv h he
    · split at he
      · cases he; exact State.enterDebugRequest_inv h _
      · split at he
        · next u hu =>
          cases he
          exact State.fillPipe_inv (State.pendingInterrupt_inv (by rw [State.entryFetch_mem]; exact h.wf) hu) (by decide)
        · exact State.instructionStep_inv (State.fillPipe_inv h (by decide)) he

end

/-- Settles O11: the inputs of the step keep the invariant, and so does each stage that the step can come to. -/
theorem stepKeepsInvariant : Obligations.StepKeepsInvariant := by
  intro s t hs ht
  have hb : s.beginStep.Inv := by
    obtain ⟨hm, hpc, hp⟩ := hs
    exact ⟨s.beginStep_wf hm, hpc, hp⟩
  obtain ⟨g, rfl | rfl | hrun⟩ := step_cases s t ht
  · exact State.holdReset_inv (hb.with_dbg g)
  · exact State.resetEntry_inv hb.wf
  · exact State.runStep_inv (hb.with_dbg g) hrun

end Sys2Proof.Machine
end

section
/-! O13: the reset sequence (70 R520 to R522, 10 R39). -/

namespace Sys2Proof.Machine

-- Elaborated one after the other: side by side, the threads of one large text pass the memory of the check.
set_option Elab.async false

/-! ### The step with an idle TAP -/

section

variable {s : State} (ht : s.tapIdle)

include ht

theorem State.tapStep_of_tapIdle : s.beginStep.tapStep = some s.beginStep := by
  cases hg : s.pins.dbgen with
  | false => exact State.tapStep_off s.beginStep hg
  | true =>
    obtain ⟨htrst, hidle⟩ := ht hg
    exact State.tapStep_idle s.beginStep htrst hidle

/-- Step 1 of 60 R436: reset comes first. -/
theorem step_of_tapIdle : step s =
    if !(s.env.headD Inputs.inactive).nRESET then
      if s.pins.dbgen && s.dbg.active then .refused .resetContract else .next s.beginStep.holdReset
    else if s.resetCycles = 0 then s.beginStep.runStep
    else if s.resetCycles = 1 then .refused .resetContract
    else .next s.beginStep.resetEntry := by
  show s.cycle = _
  unfold State.cycle
  rw [State.tapStep_of_tapIdle ht]
  rfl

theorem step_of_held (hn : (s.env.headD Inputs.inactive).nRESET = false) (hd : s.pins.dbgen = true → s.dbg.active = false) :
    step s = .next s.beginStep.holdReset := by
  rw [step_of_tapIdle ht, hn, if_pos (by decide : (!false) = true), if_neg]
  rw [Bool.and_eq_true]
  rintro ⟨hg, ha⟩
  rw [hd hg] at ha
  exact absurd ha nofun

theorem step_of_reset_over (hn : (s.env.headD Inputs.inactive).nRESET = true) (hc : 2 ≤ s.resetCycles) :
    step s = .next s.beginStep.resetEntry := by
  rw [step_of_tapIdle ht, hn, if_neg (by decide), if_neg (by omega), if_neg (by omega)]

/-- A core in an illegal mode is stuck (10 R39, U2). -/
theorem step_of_illegal_mode (hn : (s.env.headD Inputs.inactive).nRESET = true) (hc : s.resetCycles = 0)
    (hm : legalMode s.cpsr.m = false) : step s = .next s.beginStep := by
  rw [step_of_tapIdle ht, hn, if_neg (by decide), if_pos hc, State.runStep, if_pos]
  rw [State.beginStep_cpsr, hm]
  rfl

end

/-! ### The abandoned instruction -/

section

variable (s : State)

theorem State.abandonWrites_state (cs : List BusCycle) : ∀ s : State,
    ∃ m : List Host.Cell, s.abandonWrites cs = { s with mem := m } := by
  induction cs with
  | nil => exact fun s => ⟨s.mem, rfl⟩
  | cons c rest ih =>
    intro s
    obtain ⟨m, hm⟩ := ih { s with mem := s.stored c.size c.addr (Config.abandonedWord s.freeCtr rest.length) }
    exact ⟨m, hm⟩

/-- A byte of none of the writes keeps its value. -/
theorem State.abandonWrites_get (a : Nat) (cs : List BusCycle) : ∀ s : State, Memory.wf s.mem = true →
    (∀ c ∈ cs, ¬ c.size.touches c.addr a) → Memory.get (s.abandonWrites cs).mem a = Memory.get s.mem a := by
  induction cs with
  | nil => exact fun s _ _ => rfl
  | cons c rest ih =>
    intro s hm hcs
    obtain ⟨hc, hrest⟩ := List.forall_mem_cons.mp hcs
    exact (ih _ (State.wf_stored _ _ _ _ hm) hrest).trans (s.get_stored_of_not_touches _ _ _ a hm hc)

/-- The writes ahead are those of the instruction about to execute that reach memory. -/
theorem State.mem_writesAhead {c : BusCycle} (h : c ∈ s.writesAhead) : ∃ (i : Instr) (u : State),
    s.decodeNext = .ok i ∧ exec i s = .next u ∧ c ∈ u.bus ∧ c.write = true ∧ c.aborted = false := by
  unfold State.writesAhead at h
  split at h
  · exact absurd h List.not_mem_nil
  · next i hi =>
    split at h
    · next u hu =>
      obtain ⟨hmem, hw⟩ := List.mem_filter.mp h
      rw [Bool.and_eq_true, Bool.not_eq_true'] at hw
      exact ⟨i, u, hi, hu, hmem, hw⟩
    · exact absurd h List.not_mem_nil
    · exact absurd h List.not_mem_nil

/-- Only an instruction of coprocessor 14 that goes on could write the comms channel (61 R499). -/
theorem State.abandonComms_of_not_comms
    (h : ∀ (i : Instr) (u : State), s.decodeNext = .ok i → exec i s = .next u → i.coprocessor ≠ some 14#4) :
    s.abandonComms = s.dbg := by
  unfold State.abandonComms
  split
  · next c opc crn rd cp info crm hi =>
    refine if_neg fun hacc => ?_
    obtain ⟨hc, hd, rfl, rfl, rfl, rfl, rfl⟩ : condPassed c s.cpsr = true ∧ s.pins.dbgen = true ∧ cp = 14#4 ∧ opc = 0#3 ∧
        info = 0#3 ∧ crm = 0#4 ∧ crn = 1#4 := by
      simp only [State.commsAccepts, Bool.and_eq_true, beq_iff_eq, decide_eq_true_eq] at hacc
      tauto
    exact h _ _ hi (exec_mcr_comms hc hd rd) rfl
  · next c opc crn rd cp info crm hi =>
    refine if_neg fun hacc => ?_
    obtain ⟨hc, hd, rfl, rfl, rfl, rfl, rfl⟩ : condPassed c s.cpsr = true ∧ s.pins.dbgen = true ∧ cp = 14#4 ∧ opc = 0#3 ∧
        info = 0#3 ∧ crm = 0#4 ∧ crn = 1#4 := by
      simp only [State.commsAccepts, Bool.and_eq_true, beq_iff_eq, decide_eq_true_eq] at hacc
      tauto
    exact h _ _ hi (exec_mrc_commsRead hc hd rd) rfl
  · rfl

/-- Abandoning an instruction writes memory and the debug state only. -/
theorem State.abandon_state : ∃ (m : List Host.Cell) (g : Debug), s.abandon = { s with mem := m, dbg := g } := by
  unfold State.abandon
  split
  · obtain ⟨m, hm⟩ := s.abandonWrites_state s.writesAhead
    exact ⟨m, s.abandonComms, by rw [hm]⟩
  · exact ⟨s.mem, s.dbg, rfl⟩

theorem State.abandon_get (hm : Memory.wf s.mem = true) (a : Nat) (h : ∀ (i : Instr) (u : State) (c : BusCycle),
      s.decodeNext = .ok i → exec i s = .next u → c ∈ u.bus → c.write = true → c.aborted = false →
      ¬ c.size.touches c.addr a) : Memory.get s.abandon.mem a = Memory.get s.mem a := by
  unfold State.abandon
  split
  · refine s.abandonWrites_get a s.writesAhead hm fun c hc => ?_
    obtain ⟨i, u, hi, hu, hmem, hw, hab⟩ := s.mem_writesAhead hc
    exact h i u c hi hu hmem hw hab
  · rfl

theorem State.abandon_dbg
    (h : ∀ (i : Instr) (u : State), s.decodeNext = .ok i → exec i s = .next u → i.coprocessor ≠ some 14#4) :
    s.abandon.dbg = s.dbg := by
  unfold State.abandon
  split
  · exact s.abandonComms_of_not_comms h
  · rfl

/-! ### A step with nRESET LOW -/

/-- The state whose dummy fetch a step with nRESET LOW makes: in the first such step the instruction is abandoned. -/
def State.heldFrom : State := if s.resetCycles = 0 then s.abandon else s

theorem State.heldFrom_state : ∃ (m : List Host.Cell) (g : Debug), s.heldFrom = { s with mem := m, dbg := g } := by
  unfold State.heldFrom
  split
  · exact s.abandon_state
  · exact ⟨s.mem, s.dbg, rfl⟩

theorem BitVec.clear_or_set (v : Word) : v &&& 0xFFFFFFFC#32 ||| 3#32 = v ||| 3#32 := by
  rw [show 0xFFFFFFFC#32 = ~~~3#32 by decide]
  ext k hk
  simp only [BitVec.getElem_or, BitVec.getElem_and, BitVec.getElem_not]
  cases v[k] <;> cases (3#32 : Word)[k] <;> rfl

/-- One dummy word fetch, and the PC at the next word (70 R520, 20 R76). -/
theorem State.holdReset_state : ∃ (x y z : Bool) (c : BusCycle), s.holdReset =
    { s.heldFrom with
      bus := s.heldFrom.bus ++ [c]
      dbg := s.heldFrom.dbg.seen x y z
      pc := (s.pc &&& 0xFFFFFFFC#32) + 4#32
      pipe := []
      resetCycles := s.resetCycles + 1 } ∧
    c.fetch = true ∧ c.write = false ∧ c.size = .word ∧ c.addr ||| 3#32 = s.pc ||| 3#32 := by
  unfold State.holdReset
  dsimp only
  obtain ⟨x, y, z, h⟩ := (s.heldFrom.logCycle (s.heldFrom.busCycle (s.pc &&& 0xFFFFFFFC#32 ||| s.heldFrom.fetchLow 3#32)
    .word false true s.privileged false (s.resetCycles != 0)
    (Memory.wordAt s.pins.bigend s.heldFrom.mem (s.pc &&& 0xFFFFFFFC#32))
    (s.aborts (s.pc &&& 0xFFFFFFFC#32) .word false true s.privileged))).iceCycle_state _
  refine ⟨x, y, z, _, congrArg (fun u : State => { u with
    pc := (s.pc &&& 0xFFFFFFFC#32) + 4#32, pipe := [], resetCycles := s.resetCycles + 1 }) h, rfl, rfl, rfl, ?_⟩
  exact (or_mask_absorb _ _ _).trans (BitVec.clear_or_set s.pc)

end

/-- Settles O13: the step by nRESET and the count of steps with it LOW. -/
theorem resetSequence : Obligations.ResetSequence := by
  refine ⟨?entry, ?held, ?short, ?debug, ?illegal, rfl, rfl, rfl, rfl, rfl⟩
  case entry =>
    intro s ht hn hc
    obtain ⟨hpc, hm, hi, hf, htb, hpipe, hmem, hdbg, hpins, -, hcyc⟩ := s.beginStep.resetEntry_spec
    exact ⟨_, step_of_reset_over ht hn hc, hpc, hm, hi, hf, htb, hpipe, hcyc, hmem, hdbg,
      congrArg (·.bigend) hpins, congrArg (·.dbgen) hpins⟩
  case held =>
    intro s ht hd hm hn b abandons
    obtain ⟨x, y, z, c, hs, hc⟩ := b.holdReset_state
    obtain ⟨m, g, hu⟩ := b.heldFrom_state
    refine ⟨_, step_of_held ht hn hd, ?_⟩
    show b.holdReset.resetCycles = _ ∧ b.holdReset.regs = _ ∧ _
    rw [hs]
    refine ⟨rfl, by rw [hu]; rfl, by rw [hu]; rfl, by rw [hu]; rfl, rfl, rfl, ⟨c, by rw [hu]; rfl, hc⟩, ?_, ?_⟩
    · intro a ha
      unfold State.heldFrom
      split
      · next h0 => exact b.abandon_get (s.beginStep_wf hm) a fun i u c' hi hx => ha i u c' ⟨h0, hi, hx⟩
      · rfl
    · intro hcp
      refine ⟨x, y, z, congrArg (fun g : Debug => g.seen x y z) ?_⟩
      unfold State.heldFrom
      split
      · next h0 => exact b.abandon_dbg fun i u hi hx => hcp i u ⟨h0, hi, hx⟩
      · rfl
  case short =>
    intro s ht hn hc
    rw [step_of_tapIdle ht, hn, if_neg (by decide), if_neg (by omega), if_pos hc]
  case debug =>
    intro s ht hg ha hn
    rw [step_of_tapIdle ht, hn, if_pos (by decide : (!false) = true), if_pos (by rw [hg, ha]; rfl)]
  case illegal =>
    intro s ht hn hc hm
    exact ⟨_, step_of_illegal_mode ht hn hc hm, rfl, rfl, rfl, rfl, rfl, rfl⟩

end Sys2Proof.Machine
end

section
/-! O56: entry to debug state on a request, a breakpoint or a watchpoint (61 R472 to R476). -/

namespace Sys2Proof.Machine

-- Elaborated one after the other: side by side, the threads of one large text pass the memory of the check.
set_option Elab.async false

/-! ### Before the instruction -/

/-- Where the pin marks the only fetch that the head of the queue waits for, the head is marked (61 R472, R482). -/
theorem State.fillPipe_breakpoint_of_pin {s : State} {n : Nat} (hn : 0 < n) (hd : s.pins.dbgen = true) (h : s.pipe = [])
    (hb : s.bus = []) (hp : s.inp.breakpt.getD 0 false = true) : (s.fillPipe n).head.breakpoint = true := by
  have hone : s.fillPipe 1 = s.prefetch := if_pos (by simp [h])
  have hne : s.prefetch.pipe ≠ [] := by
    rw [← hone]
    exact List.ne_nil_of_length_pos (by simp [h])
  have hc : s.nextFetch.breakpt = true := by
    show s.inp.breakpt.getD s.bus.length false = true
    rw [hb]
    exact hp
  rw [← s.fillPipe_fillPipe hn, hone, State.fillPipe_head _ _ hne, s.prefetch_breakpoint h, State.iceCycle,
    if_neg (by rw [State.logCycle_pins, hd]; decide), hc]
  rfl

/-- An instruction marked in the queue, or marked by the pin as it is fetched, is marked when its turn comes. -/
theorem State.fillPipe_breakpoint {s : State} (hd : s.pins.dbgen = true) (hb : s.bus = [])
    (hm : (s.slot 0).breakpoint = true ∨ (s.pipe = [] ∧ s.inp.breakpt.getD 0 false = true)) :
    (s.fillPipe 3).head.breakpoint = true := by
  rcases hm with hm | ⟨hp, hpin⟩
  · obtain ⟨q, hq, -, -, hold⟩ := s.fillPipe_get_slot 3 0 (by omega)
    have hne : 0 < s.pipe.length := by
      refine List.length_pos_iff.mpr fun hp => ?_
      rw [State.slot, hp] at hm
      exact absurd hm nofun
    rw [(s.fillPipe 3).head_of_get hq, hold hne, hm]
  · exact State.fillPipe_breakpoint_of_pin (by omega) hd hp hb hpin

/-- The breakpoint mark stops the core before the instruction (61 R472). -/
theorem State.instructionStep_of_breakpoint {s : State} (hd : s.pins.dbgen = true) (ha : s.head.aborted = false)
    (hb : s.head.breakpoint = true) : s.instructionStep = .next (s.enterDebugBreak false) := by
  rw [State.instructionStep, if_neg (by rw [ha]; decide), if_pos (by rw [hd, hb]; rfl)]

section

variable {s : State} (hd : s.pins.dbgen = true) (hm : legalMode s.cpsr.m = true) (hc : s.resetCycles = 0)
  (hn : (s.env.headD Inputs.inactive).nRESET = true) (ht : s.tapIdle)

include hd hm hc hn ht

theorem step_of_debug_request (ha : s.dbg.active = false)
    (hr : (s.env.headD Inputs.inactive).dbgrq = true ∨ s.dbg.dbgrqLatch = true) : step s =
      .next (s.beginStep.enterDebugRequest (Config.requestCapture s.beginStep.freeCtr)) := by
  have hreq : s.beginStep.debugRequest = true := Bool.or_eq_true_iff.mpr hr
  have hactive : s.beginStep.dbg.active = false := ha
  rw [step_of_tapIdle ht, hn, if_neg (by decide), if_pos hc, State.runStep, if_neg (by rw [State.beginStep_cpsr, hm]; decide),
    if_neg (by rw [hactive, Bool.and_false]; decide), if_pos (by rw [State.beginStep_dbgen, hd, hreq]; rfl)]

/-- With no command of the debugger the stopped core stays stopped. -/
theorem step_of_debug_idle (ha : s.dbg.active = true) : step s = .next s.beginStep := by
  have hactive : s.beginStep.dbg.active = true := ha
  obtain ⟨htrst, hidle⟩ := ht hd
  have hcmd : s.beginStep.debugCommand = .idle := by
    rw [State.debugCommand, State.beginStep_inp, if_pos htrst, hidle]
  rw [step_of_tapIdle ht, hn, if_neg (by decide), if_pos hc, State.runStep, if_neg (by rw [State.beginStep_cpsr, hm]; decide),
    if_pos (by rw [State.beginStep_dbgen, hd, hactive]; rfl), State.debugStep, hcmd]

end

/-! ### After the instruction -/

/-- `u` is `t` but for fetches and what ICEBreaker's view of memory cycles writes. -/
def State.fetchedFrom (t u : State) : Prop :=
  ∃ (bus : List BusCycle) (pipe : List Slot) (e x y z : Bool),
    u = { t with bus := bus, pipe := pipe, nonSeq := e, dbg := t.dbg.seen x y z }

section

variable {t u v : State}

theorem State.fetchedFrom_trans (h : t.fetchedFrom u) (h' : u.fetchedFrom v) : t.fetchedFrom v := by
  obtain ⟨_, _, _, _, _, _, rfl⟩ := h
  obtain ⟨bus, pipe, e, x, y, z, rfl⟩ := h'
  exact ⟨bus, pipe, e, x, y, z, rfl⟩

variable (t)

theorem State.fetchedFrom_iceCycles (cs : List BusCycle) : t.fetchedFrom (t.iceCycles cs).2 := by
  obtain ⟨x, y, z, h⟩ := t.iceCycles_state cs
  exact ⟨t.bus, t.pipe, t.nonSeq, x, y, z, h⟩

theorem State.fetchedFrom_abortFetch (before : State) : t.fetchedFrom (t.abortFetch before) := by
  obtain ⟨x, y, z, cs, h⟩ := t.abortFetch_state before
  exact ⟨t.bus ++ cs, t.pipe, t.nonSeq, x, y, z, h⟩

theorem State.fetchedFrom_fillPipe (n : Nat) : t.fetchedFrom (t.fillPipe n) := by
  obtain ⟨x, y, z, e, q, cs, h, -⟩ := t.fillPipe_state n
  exact ⟨t.bus ++ cs, t.pipe ++ q, e, x, y, z, h⟩

theorem State.fetchedFrom_entryFetch : t.fetchedFrom t.entryFetch := by
  obtain ⟨x, y, z, e, q, cs, c, h, -⟩ := t.entryFetch_state
  exact ⟨_, t.pipe ++ q, e, x, y, z, h⟩

/-- The end of an instruction before a watchpoint is taken: the entry fetch of a data abort and the refill. -/
def State.endFetches (before : State) : State := ((t.iceCycles t.dataCycles).2.abortFetch before).fillPipe 2

theorem State.fetchedFrom_endFetches (before : State) : t.fetchedFrom (t.endFetches before) :=
  State.fetchedFrom_trans (t.fetchedFrom_iceCycles _)
    (State.fetchedFrom_trans (State.fetchedFrom_abortFetch _ before) (State.fetchedFrom_fillPipe _ 2))

variable {t} {before : State} (hw : (t.iceCycles t.dataCycles).1 = true) (hm : legalMode t.cpsr.m = true)

include hw hm

/-- A watchpoint on an aborted access enters debug state two instructions past the vector (61 R476). -/
theorem State.endInstruction_watched_aborted (ha : ∃ c ∈ t.dataCycles, c.aborted = true) :
    t.endInstruction before = (t.endFetches before).enterDebugRequest true := by
  rw [State.dataCycles] at hw ha
  unfold State.endInstruction
  dsimp only
  rw [if_pos (Bool.and_eq_true_iff.mpr ⟨hw, hm⟩), if_pos (List.any_eq_true.mpr ha)]
  rfl

/-- A watchpoint without an abort enters debug state after the interrupt that is pending, if there is one (61 R473, R476). -/
theorem State.endInstruction_watched_unaborted (ha : ∀ c ∈ t.dataCycles, c.aborted = false) :
    t.endInstruction before =
      match (t.endFetches before).entryFetch.pendingInterrupt t.inp.nFIQEnd t.inp.nIRQEnd with
      | some r => (r.fillPipe 2).enterDebugRequest true
      | none => (t.endFetches before).enterDebugBreak true := by
  have hna : ¬ ((t.dataCycles.any fun c => c.aborted) = true) := by
    rw [List.any_eq_true]
    rintro ⟨c, hc, hca⟩
    rw [ha c hc] at hca
    exact absurd hca nofun
  rw [State.dataCycles] at hw hna
  unfold State.endInstruction
  dsimp only
  rw [if_pos (Bool.and_eq_true_iff.mpr ⟨hw, hm⟩), if_neg hna]
  rfl

theorem State.endInstruction_watched_interrupt {r : State} (ha : ∀ c ∈ t.dataCycles, c.aborted = false)
    (h : (t.endFetches before).entryFetch.pendingInterrupt t.inp.nFIQEnd t.inp.nIRQEnd = some r) :
    t.endInstruction before = (r.fillPipe 2).enterDebugRequest true := by
  rw [State.endInstruction_watched_unaborted hw hm ha, h]

theorem State.endInstruction_watched_quiet (ha : ∀ c ∈ t.dataCycles, c.aborted = false)
    (h : (t.endFetches before).entryFetch.pendingInterrupt t.inp.nFIQEnd t.inp.nIRQEnd = none) :
    t.endInstruction before = (t.endFetches before).enterDebugBreak true := by
  rw [State.endInstruction_watched_unaborted hw hm ha, h]

end

/-- Debug state is entered from what the core was in `r`, on a watchpoint, with the PC at `pc` (61 R493). -/
def State.watchEntered (r u : State) (pc : Word) : Prop :=
  r.sameCore u ∧ u.dbg.active = true ∧ u.dbg.captured33 = true ∧ u.pc = pc

section

variable {t u : State}

theorem State.fetchedFrom.enterDebugRequest (h : t.fetchedFrom u) :
    t.watchEntered (u.enterDebugRequest true) (t.pc + t.instrBytes + t.instrBytes) := by
  obtain ⟨_, _, _, _, _, _, rfl⟩ := h
  exact ⟨⟨rfl, rfl, rfl, rfl⟩, rfl, rfl, rfl⟩

theorem State.fetchedFrom.enterDebugBreak (h : t.fetchedFrom u) :
    t.watchEntered (u.enterDebugBreak true) (t.pc + t.instrBytes + t.instrBytes + t.instrBytes) := by
  obtain ⟨_, _, _, _, _, _, rfl⟩ := h
  exact ⟨⟨rfl, rfl, rfl, rfl⟩, rfl, rfl, rfl⟩

theorem State.fetchedFrom.enterException (h : t.fetchedFrom u) (e : Exc) :
    (t.enterException e (t.pc + 4#32)).fetchedFrom (u.enterException e (u.pc + 4#32)) := by
  obtain ⟨bus, _, nonSeq, x, y, z, rfl⟩ := h
  exact ⟨bus, [], nonSeq, x, y, z, rfl⟩

/-- An interrupt and its refill, and the entry to debug state two instructions past the vector. -/
theorem State.fetchedFrom.interrupted (h : t.fetchedFrom u) (e : Exc) :
    (t.enterException e (t.pc + 4#32)).watchEntered
      (((u.enterException e (u.pc + 4#32)).fillPipe 2).enterDebugRequest true) (e.vector + 8#32) := by
  have hv : e.vector + 4#32 + 4#32 = e.vector + 8#32 := by rw [BitVec.add_assoc]; rfl
  rw [← hv]
  exact (State.fetchedFrom_trans (h.enterException e) (State.fetchedFrom_fillPipe _ 2)).enterDebugRequest

/-- The interrupts see the masks and the debug state of before the fetches. -/
theorem State.fetchedFrom.pendingInterrupt_none (h : t.fetchedFrom u) {nFIQ nIRQ : Bool} (hd : t.pins.dbgen = true)
    (hq : ¬ (t.dbg.active = false ∧ t.dbg.intdis = false) ∨
      ((t.cpsr.f = true ∨ nFIQ = true) ∧ (t.cpsr.i = true ∨ nIRQ = true))) :
    u.pendingInterrupt nFIQ nIRQ = none := by
  obtain ⟨_, _, _, _, _, _, rfl⟩ := h
  rcases hq with hq | ⟨hf, hi⟩
  · refine State.pendingInterrupt_of_not_ifen _ _ _ (Bool.eq_false_iff.mpr fun he => ?_)
    rw [State.ifen_eq_true_iff] at he
    exact hq (he.resolve_left (by rw [show _ = true from hd]; decide))
  · exact State.pendingInterrupt_none _ _ _ hf hi

theorem State.fetchedFrom.ifen (h : t.fetchedFrom u) (ho : t.dbg.active = false ∧ t.dbg.intdis = false) :
    u.ifen = true := by
  obtain ⟨_, _, _, _, _, _, rfl⟩ := h
  exact (State.ifen_eq_true_iff _).mpr (.inr ho)

theorem State.fetchedFrom.cpsr (h : t.fetchedFrom u) : u.cpsr = t.cpsr := by
  obtain ⟨_, _, _, _, _, _, rfl⟩ := h
  rfl

end

/-- Settles O56: the step by what stops it, and the end of an instruction by what comes with the watchpoint. -/
theorem debugEntry : Obligations.DebugEntry := by
  refine ⟨?before, ?after⟩
  case before =>
    intro s inp b hd hm hc hn ht
    refine ⟨?request, ?breakpoint, ?stopped⟩
    case request =>
      intro ha hr
      exact ⟨_, step_of_debug_request hd hm hc hn ht ha hr, rfl, rfl, rfl, rfl, rfl, rfl⟩
    case breakpoint =>
      intro hr hq ha hb
      obtain ⟨q, hqs, -, hqa, -⟩ := b.fillPipe_get_slot 3 0 (by omega)
      have habort : (b.fillPipe 3).head.aborted = false := by rw [(b.fillPipe 3).head_of_get hqs, hqa, ha]
      have hmark := State.fillPipe_breakpoint (s := b) hd rfl hb
      refine ⟨_, (step_of_running_quiet s hr hq).trans
        (State.instructionStep_of_breakpoint (by rw [State.fillPipe_pins]; exact hd) habort hmark), ?_⟩
      obtain ⟨x, y, z, e, p, cs, h, -⟩ := b.fillPipe_state 3
      show ((b.fillPipe 3).enterDebugBreak false).dbg.active = true ∧
        ((b.fillPipe 3).enterDebugBreak false).dbg.captured33 = false ∧
        ((b.fillPipe 3).enterDebugBreak false).pc = _ ∧ b.sameCore ((b.fillPipe 3).enterDebugBreak false)
      rw [h]
      exact ⟨rfl, rfl, rfl, rfl, rfl, rfl, rfl⟩
    case stopped =>
      intro ha
      exact ⟨_, step_of_debug_idle hd hm hc hn ht ha, ha, rfl, rfl, rfl, rfl, rfl⟩
  case after =>
    intro t before data open_ u enters hd hw
    have hend := t.fetchedFrom_endFetches before
    have hentry := State.fetchedFrom_trans hend (State.fetchedFrom_entryFetch _)
    refine ⟨fun hm => ?illegal, fun hm ha => ?aborted, fun hm ha => ⟨fun hq => ?quiet, fun ho hf hn => ?fiq,
      fun ho hf hi hn => ?irq⟩⟩
    case illegal =>
      obtain ⟨hcore, hpc, hactive⟩ := t.endInstruction_illegal before hm
      exact ⟨hcore, hactive, hpc⟩
    case aborted =>
      have h := State.endInstruction_watched_aborted (before := before) hw hm ha
      show State.watchEntered _ (t.endInstruction before) _
      rw [h]
      exact hend.enterDebugRequest
    case quiet =>
      have h := State.endInstruction_watched_quiet hw hm ha (hentry.pendingInterrupt_none hd hq)
      show State.watchEntered _ (t.endInstruction before) _
      rw [h]
      exact hend.enterDebugBreak
    case fiq =>
      have h := State.endInstruction_watched_interrupt hw hm ha
        (State.pendingInterrupt_fiq (hentry.ifen ho) (by rw [hentry.cpsr, hf]) hn)
      show State.watchEntered _ (t.endInstruction before) _
      rw [h]
      exact hentry.interrupted .fiq
    case irq =>
      have h := State.endInstruction_watched_interrupt hw hm ha
        (State.pendingInterrupt_irq (hentry.ifen ho) (by rwa [hentry.cpsr]) (by rw [hentry.cpsr, hi]) hn)
      show State.watchEntered _ (t.endInstruction before) _
      rw [h]
      exact hentry.interrupted .irq

end Sys2Proof.Machine
end
